-- ==== Sys2Proof/Word.lean ====
section
/-! DEFINITION. Word.lean: the widths the spec's values have. -/

namespace Sys2Proof

/-- A byte: a general register, a data byte, half of a program word (R30 10_state.md, R100 20_memory.md). -/
abbrev Byte := BitVec 8

/-- A 16-bit word: a program word, the pc, SP, a pointer, a data address (R22 00_scope.md). -/
abbrev Word := BitVec 16

/-- The low byte of a word. -/
abbrev lowByte (w : Word) : Byte := w.extractLsb' 0 8

/-- The high byte of a word. -/
abbrev highByte (w : Word) : Byte := w.extractLsb' 8 8

end Sys2Proof
end

