-- ==== Sys2Proof/Syntax.lean ====
section
/-! DEFINITION. Syntax.lean: the instructions, one constructor per row of spec/opcode_table.json (R185 30_encoding.md),
with the operands R153 and R156 give it, and the pseudo-instructions of R181 as plain definitions. -/

namespace Sys2Proof

/-- The 85 instructions. Register operands are register NUMBERS 0..31 (R156: `16 + field`, `24 + 2*field` and
`2*field` are already applied); `k` of RJMP, RCALL, BRBS and BRBC is the raw two's-complement displacement; `k` of JMP
and CALL is the 22-bit address of the encoding. `WellFormed.lean` says which operands an encoding admits. -/
inductive Instr where
  -- Arithmetic and logic (40_arith_logic.md)
  /-- ADD: `ADD Rd, Rr`, R204. -/
  | add (d r : BitVec 5)
  /-- ADC: `ADC Rd, Rr`, R205. -/
  | adc (d r : BitVec 5)
  /-- ADIW: `ADIW Rd+1:Rd, K`, R206. -/
  | adiw (d : BitVec 5) (k : BitVec 6)
  /-- SUB: `SUB Rd, Rr`, R207. -/
  | sub (d r : BitVec 5)
  /-- SUBI: `SUBI Rd, K`, R208. -/
  | subi (d : BitVec 5) (k : BitVec 8)
  /-- SBC: `SBC Rd, Rr`, R209. -/
  | sbc (d r : BitVec 5)
  /-- SBCI: `SBCI Rd, K`, R210. -/
  | sbci (d : BitVec 5) (k : BitVec 8)
  /-- SBIW: `SBIW Rd+1:Rd, K`, R211. -/
  | sbiw (d : BitVec 5) (k : BitVec 6)
  /-- AND: `AND Rd, Rr`, R212. -/
  | and (d r : BitVec 5)
  /-- ANDI: `ANDI Rd, K`, R213. -/
  | andi (d : BitVec 5) (k : BitVec 8)
  /-- OR: `OR Rd, Rr`, R214. -/
  | or (d r : BitVec 5)
  /-- ORI: `ORI Rd, K`, R215. -/
  | ori (d : BitVec 5) (k : BitVec 8)
  /-- EOR: `EOR Rd, Rr`, R216. -/
  | eor (d r : BitVec 5)
  /-- COM: `COM Rd`, R217. -/
  | com (d : BitVec 5)
  /-- NEG: `NEG Rd`, R218. -/
  | neg (d : BitVec 5)
  /-- INC: `INC Rd`, R219. -/
  | inc (d : BitVec 5)
  /-- DEC: `DEC Rd`, R220. -/
  | dec (d : BitVec 5)
  /-- MUL: `MUL Rd, Rr`, R221. -/
  | mul (d r : BitVec 5)
  /-- MULS: `MULS Rd, Rr`, R222. -/
  | muls (d r : BitVec 5)
  /-- MULSU: `MULSU Rd, Rr`, R223. -/
  | mulsu (d r : BitVec 5)
  /-- FMUL: `FMUL Rd, Rr`, R224. -/
  | fmul (d r : BitVec 5)
  /-- FMULS: `FMULS Rd, Rr`, R225. -/
  | fmuls (d r : BitVec 5)
  /-- FMULSU: `FMULSU Rd, Rr`, R226. -/
  | fmulsu (d r : BitVec 5)
  -- Control transfer, compare and skip (41_branch.md)
  /-- RJMP: `RJMP k`, R263. -/
  | rjmp (k : BitVec 12)
  /-- IJMP: `IJMP`, R264. -/
  | ijmp
  /-- JMP: `JMP k`, R265. -/
  | jmp (k : BitVec 22)
  /-- RCALL: `RCALL k`, R267. -/
  | rcall (k : BitVec 12)
  /-- ICALL: `ICALL`, R268. -/
  | icall
  /-- CALL: `CALL k`, R269. -/
  | call (k : BitVec 22)
  /-- RET: `RET`, R270. -/
  | ret
  /-- RETI: `RETI`, R271. -/
  | reti
  /-- CPSE: `CPSE Rd, Rr`, R272. -/
  | cpse (d r : BitVec 5)
  /-- CP: `CP Rd, Rr`, R273. -/
  | cp (d r : BitVec 5)
  /-- CPC: `CPC Rd, Rr`, R274. -/
  | cpc (d r : BitVec 5)
  /-- CPI: `CPI Rd, K`, R275. -/
  | cpi (d : BitVec 5) (k : BitVec 8)
  /-- SBRC: `SBRC Rr, b`, R276. -/
  | sbrc (r : BitVec 5) (b : BitVec 3)
  /-- SBRS: `SBRS Rr, b`, R277. -/
  | sbrs (r : BitVec 5) (b : BitVec 3)
  /-- SBIC: `SBIC A, b`, R278. -/
  | sbic (a : BitVec 5) (b : BitVec 3)
  /-- SBIS: `SBIS A, b`, R279. -/
  | sbis (a : BitVec 5) (b : BitVec 3)
  /-- BRBS: `BRBS s, k`, R280. -/
  | brbs (s : BitVec 3) (k : BitVec 7)
  /-- BRBC: `BRBC s, k`, R281. -/
  | brbc (s : BitVec 3) (k : BitVec 7)
  -- Data transfer (42_data_transfer.md)
  /-- MOV: `MOV Rd, Rr`, R301. -/
  | mov (d r : BitVec 5)
  /-- MOVW: `MOVW Rd+1:Rd, Rr+1:Rr`, R302. -/
  | movw (d r : BitVec 5)
  /-- LDI: `LDI Rd, K`, R303. -/
  | ldi (d : BitVec 5) (k : BitVec 8)
  /-- LD_X: `LD Rd, X`, R304. -/
  | ldX (d : BitVec 5)
  /-- LD_X_INC: `LD Rd, X+`, R305. -/
  | ldXInc (d : BitVec 5)
  /-- LD_X_DEC: `LD Rd, -X`, R306. -/
  | ldXDec (d : BitVec 5)
  /-- LD_Y_INC: `LD Rd, Y+`, R307. -/
  | ldYInc (d : BitVec 5)
  /-- LD_Y_DEC: `LD Rd, -Y`, R308. -/
  | ldYDec (d : BitVec 5)
  /-- LDD_Y: `LDD Rd, Y+q (q = 0 is LD Rd, Y)`, R309. -/
  | lddY (d : BitVec 5) (q : BitVec 6)
  /-- LD_Z_INC: `LD Rd, Z+`, R310. -/
  | ldZInc (d : BitVec 5)
  /-- LD_Z_DEC: `LD Rd, -Z`, R311. -/
  | ldZDec (d : BitVec 5)
  /-- LDD_Z: `LDD Rd, Z+q (q = 0 is LD Rd, Z)`, R312. -/
  | lddZ (d : BitVec 5) (q : BitVec 6)
  /-- LDS: `LDS Rd, k`, R313. -/
  | lds (d : BitVec 5) (k : Word)
  /-- ST_X: `ST X, Rr`, R314. -/
  | stX (r : BitVec 5)
  /-- ST_X_INC: `ST X+, Rr`, R315. -/
  | stXInc (r : BitVec 5)
  /-- ST_X_DEC: `ST -X, Rr`, R316. -/
  | stXDec (r : BitVec 5)
  /-- ST_Y_INC: `ST Y+, Rr`, R317. -/
  | stYInc (r : BitVec 5)
  /-- ST_Y_DEC: `ST -Y, Rr`, R318. -/
  | stYDec (r : BitVec 5)
  /-- STD_Y: `STD Y+q, Rr (q = 0 is ST Y, Rr)`, R319. -/
  | stdY (q : BitVec 6) (r : BitVec 5)
  /-- ST_Z_INC: `ST Z+, Rr`, R320. -/
  | stZInc (r : BitVec 5)
  /-- ST_Z_DEC: `ST -Z, Rr`, R321. -/
  | stZDec (r : BitVec 5)
  /-- STD_Z: `STD Z+q, Rr (q = 0 is ST Z, Rr)`, R322. -/
  | stdZ (q : BitVec 6) (r : BitVec 5)
  /-- STS: `STS k, Rr`, R323. -/
  | sts (k : Word) (r : BitVec 5)
  /-- LPM_R0: `LPM`, R324. -/
  | lpmR0
  /-- LPM_Z: `LPM Rd, Z`, R325. -/
  | lpmZ (d : BitVec 5)
  /-- LPM_Z_INC: `LPM Rd, Z+`, R326. -/
  | lpmZInc (d : BitVec 5)
  /-- IN: `IN Rd, A`, R327. -/
  | inIo (d : BitVec 5) (a : BitVec 6)
  /-- OUT: `OUT A, Rr`, R328. -/
  | outIo (a : BitVec 6) (r : BitVec 5)
  /-- PUSH: `PUSH Rr`, R329. -/
  | push (r : BitVec 5)
  /-- POP: `POP Rd`, R330. -/
  | pop (d : BitVec 5)
  -- Bit and bit-test (43_bit.md)
  /-- SBI: `SBI A, b`, R351. -/
  | sbi (a : BitVec 5) (b : BitVec 3)
  /-- CBI: `CBI A, b`, R352. -/
  | cbi (a : BitVec 5) (b : BitVec 3)
  /-- LSR: `LSR Rd`, R353. -/
  | lsr (d : BitVec 5)
  /-- ROR: `ROR Rd`, R354. -/
  | ror (d : BitVec 5)
  /-- ASR: `ASR Rd`, R355. -/
  | asr (d : BitVec 5)
  /-- SWAP: `SWAP Rd`, R356. -/
  | swap (d : BitVec 5)
  /-- BSET: `BSET s`, R357. -/
  | bset (s : BitVec 3)
  /-- BCLR: `BCLR s`, R358. -/
  | bclr (s : BitVec 3)
  /-- BST: `BST Rd, b`, R359. -/
  | bst (d : BitVec 5) (b : BitVec 3)
  /-- BLD: `BLD Rd, b`, R360. -/
  | bld (d : BitVec 5) (b : BitVec 3)
  -- MCU control (44_mcu_control.md)
  /-- NOP: `NOP`, R380. -/
  | nop
  /-- SLEEP: `SLEEP`, R381. -/
  | sleep
  /-- WDR: `WDR`, R382. -/
  | wdr
  /-- BREAK: `BREAK`, R383. -/
  | brk
  deriving DecidableEq, Repr

namespace Instr

/-! ### Pseudo-instructions (R181 30_encoding.md, R282 41_branch.md): each is exactly its expansion. -/

abbrev clr (d : BitVec 5) : Instr := .eor d d
abbrev tst (d : BitVec 5) : Instr := .and d d
abbrev lsl (d : BitVec 5) : Instr := .add d d
abbrev rol (d : BitVec 5) : Instr := .adc d d
/-- `SER Rd`, d in 16..31. -/
abbrev ser (d : BitVec 5) : Instr := .ldi d 0xFF
abbrev sbr (d : BitVec 5) (k : BitVec 8) : Instr := .ori d k
abbrev cbr (d : BitVec 5) (k : BitVec 8) : Instr := .andi d (0xFF - k)
abbrev ldY (d : BitVec 5) : Instr := .lddY d 0
abbrev ldZ (d : BitVec 5) : Instr := .lddZ d 0
abbrev stY (r : BitVec 5) : Instr := .stdY 0 r
abbrev stZ (r : BitVec 5) : Instr := .stdZ 0 r
abbrev sec : Instr := .bset 0
abbrev clc : Instr := .bclr 0
abbrev sez : Instr := .bset 1
abbrev clz : Instr := .bclr 1
abbrev sen : Instr := .bset 2
abbrev cln : Instr := .bclr 2
abbrev sev : Instr := .bset 3
abbrev clv : Instr := .bclr 3
abbrev ses : Instr := .bset 4
abbrev cls : Instr := .bclr 4
abbrev seh : Instr := .bset 5
abbrev clh : Instr := .bclr 5
abbrev set : Instr := .bset 6
abbrev clt : Instr := .bclr 6
abbrev sei : Instr := .bset 7
abbrev cli : Instr := .bclr 7
abbrev brcs (k : BitVec 7) : Instr := .brbs 0 k
abbrev brcc (k : BitVec 7) : Instr := .brbc 0 k
abbrev breq (k : BitVec 7) : Instr := .brbs 1 k
abbrev brne (k : BitVec 7) : Instr := .brbc 1 k
abbrev brmi (k : BitVec 7) : Instr := .brbs 2 k
abbrev brpl (k : BitVec 7) : Instr := .brbc 2 k
abbrev brvs (k : BitVec 7) : Instr := .brbs 3 k
abbrev brvc (k : BitVec 7) : Instr := .brbc 3 k
abbrev brlt (k : BitVec 7) : Instr := .brbs 4 k
abbrev brge (k : BitVec 7) : Instr := .brbc 4 k
abbrev brhs (k : BitVec 7) : Instr := .brbs 5 k
abbrev brhc (k : BitVec 7) : Instr := .brbc 5 k
abbrev brts (k : BitVec 7) : Instr := .brbs 6 k
abbrev brtc (k : BitVec 7) : Instr := .brbc 6 k
abbrev brie (k : BitVec 7) : Instr := .brbs 7 k
abbrev brid (k : BitVec 7) : Instr := .brbc 7 k
abbrev brlo (k : BitVec 7) : Instr := .brcs k
abbrev brsh (k : BitVec 7) : Instr := .brcc k

end Instr

end Sys2Proof
end

