-- ==== Sys2Proof/WellFormed.lean ====
section
/-! DEFINITION. WellFormed.lean: which operands the encoding of an instruction admits (R32 10_state.md, R156 and the
constraint column of R185 30_encoding.md). -/

namespace Sys2Proof

namespace Operand

/-- R16..R31: the 4-bit `d` of the RK format and both operands of MULS (R32). -/
def upper (d : BitVec 5) : Bool := decide (16 ≤ d.toNat)

/-- R16..R23: the 3-bit operands of MULSU, FMUL, FMULS and FMULSU (R32). -/
def mid (d : BitVec 5) : Bool := decide (16 ≤ d.toNat) && decide (d.toNat ≤ 23)

/-- R24, R26, R28 or R30: the low half of the pair of ADIW and SBIW (R32). -/
def pairTop (d : BitVec 5) : Bool := d == 24 || d == 26 || d == 28 || d == 30

/-- An even register: the operands of MOVW (R32). -/
def even (d : BitVec 5) : Bool := !d.getLsbD 0

/-- A half of X (R171 class 9 30_encoding.md). -/
def halfX (d : BitVec 5) : Bool := d == 26 || d == 27

/-- A half of Y (R171 class 9). -/
def halfY (d : BitVec 5) : Bool := d == 28 || d == 29

/-- A half of Z (R171 class 9). -/
def halfZ (d : BitVec 5) : Bool := d == 30 || d == 31

end Operand

open Operand

/-- The operands are ones the instruction's encoding admits and its constraint allows (R171 classes 9 and 10, R185). -/
def Instr.wellFormed : Instr → Bool
  | .add _ _ => true
  | .adc _ _ => true
  | .adiw d _ => pairTop d
  | .sub _ _ => true
  | .subi d _ => upper d
  | .sbc _ _ => true
  | .sbci d _ => upper d
  | .sbiw d _ => pairTop d
  | .and _ _ => true
  | .andi d _ => upper d
  | .or _ _ => true
  | .ori d _ => upper d
  | .eor _ _ => true
  | .com _ => true
  | .neg _ => true
  | .inc _ => true
  | .dec _ => true
  | .mul _ _ => true
  | .muls d r => upper d && upper r
  | .mulsu d r => mid d && mid r
  | .fmul d r => mid d && mid r
  | .fmuls d r => mid d && mid r
  | .fmulsu d r => mid d && mid r
  | .rjmp _ => true
  | .ijmp => true
  | .jmp k => decide (k.toNat < 0x10000)
  | .rcall _ => true
  | .icall => true
  | .call k => decide (k.toNat < 0x10000)
  | .ret => true
  | .reti => true
  | .cpse _ _ => true
  | .cp _ _ => true
  | .cpc _ _ => true
  | .cpi d _ => upper d
  | .sbrc _ _ => true
  | .sbrs _ _ => true
  | .sbic _ _ => true
  | .sbis _ _ => true
  | .brbs _ _ => true
  | .brbc _ _ => true
  | .mov _ _ => true
  | .movw d r => even d && even r
  | .ldi d _ => upper d
  | .ldX _ => true
  | .ldXInc d => !halfX d
  | .ldXDec d => !halfX d
  | .ldYInc d => !halfY d
  | .ldYDec d => !halfY d
  | .lddY _ _ => true
  | .ldZInc d => !halfZ d
  | .ldZDec d => !halfZ d
  | .lddZ _ _ => true
  | .lds _ _ => true
  | .stX _ => true
  | .stXInc r => !halfX r
  | .stXDec r => !halfX r
  | .stYInc r => !halfY r
  | .stYDec r => !halfY r
  | .stdY _ _ => true
  | .stZInc r => !halfZ r
  | .stZDec r => !halfZ r
  | .stdZ _ _ => true
  | .sts _ _ => true
  | .lpmR0 => true
  | .lpmZ _ => true
  | .lpmZInc d => !halfZ d
  | .inIo _ _ => true
  | .outIo _ _ => true
  | .push _ => true
  | .pop _ => true
  | .sbi _ _ => true
  | .cbi _ _ => true
  | .lsr _ => true
  | .ror _ => true
  | .asr _ => true
  | .swap _ => true
  | .bset _ => true
  | .bclr _ => true
  | .bst _ _ => true
  | .bld _ _ => true
  | .nop => true
  | .sleep => true
  | .wdr => true
  | .brk => true

end Sys2Proof
end

