-- ==== Sys2Proof/Decode.lean ====
section
/-! DEFINITION. Decode.lean: the decoder (R150 to R171 30_encoding.md), and after it the encoder written from the same
patterns of R185. -/

namespace Sys2Proof

/-! ### Lengths (R151) -/

/-- `isTwoWord(w)` of R151. -/
def isTwoWord (w : Word) : Bool :=
  (w &&& 0xFE0F) == 0x9000 || (w &&& 0xFE0F) == 0x9200 || (w &&& 0xFE0E) == 0x940C || (w &&& 0xFE0E) == 0x940E

/-- `length(w)` of R151, in words. -/
def wordLength (w : Word) : Nat := if isTwoWord w then 2 else 1

/-! ### The operand fields of the first word `w` and the second word `w2` (R153, R156) -/

/-- `w[8:4]`: `d` or `r` of the RR, R1, RS, Q, IO, RB and LDS formats. -/
def d5 (w : Word) : BitVec 5 := w.extractLsb' 4 5
/-- `w[9]:w[3:0]`: `r` of the RR format. -/
def r5 (w : Word) : BitVec 5 := w.extractLsb' 9 1 ++ w.extractLsb' 0 4
/-- `16 + w[7:4]`: `d` of the RK and MULS formats. -/
def dUpper (w : Word) : BitVec 5 := 0b1#1 ++ w.extractLsb' 4 4
/-- `16 + w[3:0]`: `r` of MULS. -/
def rUpper (w : Word) : BitVec 5 := 0b1#1 ++ w.extractLsb' 0 4
/-- `16 + w[6:4]`: `d` of the M3 format. -/
def dMid (w : Word) : BitVec 5 := 0b10#2 ++ w.extractLsb' 4 3
/-- `16 + w[2:0]`: `r` of the M3 format. -/
def rMid (w : Word) : BitVec 5 := 0b10#2 ++ w.extractLsb' 0 3
/-- `24 + 2*w[5:4]`: `d` of the RW format. -/
def dPair (w : Word) : BitVec 5 := 0b11#2 ++ w.extractLsb' 4 2 ++ 0b0#1
/-- `2*w[7:4]`: `d` of MOVW. -/
def dEven (w : Word) : BitVec 5 := w.extractLsb' 4 4 ++ 0b0#1
/-- `2*w[3:0]`: `r` of MOVW. -/
def rEven (w : Word) : BitVec 5 := w.extractLsb' 0 4 ++ 0b0#1
/-- `w[11:8]:w[3:0]`: `K` of the RK format. -/
def k8 (w : Word) : BitVec 8 := w.extractLsb' 8 4 ++ w.extractLsb' 0 4
/-- `w[7:6]:w[3:0]`: `K` of the RW format. -/
def k6 (w : Word) : BitVec 6 := w.extractLsb' 6 2 ++ w.extractLsb' 0 4
/-- `w[13]:w[11:10]:w[2:0]`: `q` of the Q format. -/
def q6 (w : Word) : BitVec 6 := w.extractLsb' 13 1 ++ w.extractLsb' 10 2 ++ w.extractLsb' 0 3
/-- `w[10:9]:w[3:0]`: `A` of the IO format. -/
def a6 (w : Word) : BitVec 6 := w.extractLsb' 9 2 ++ w.extractLsb' 0 4
/-- `w[7:3]`: `A` of the IOB format. -/
def a5 (w : Word) : BitVec 5 := w.extractLsb' 3 5
/-- `w[2:0]`: `b` of the IOB and RB formats, `s` of the BR format. -/
def b3 (w : Word) : BitVec 3 := w.extractLsb' 0 3
/-- `w[6:4]`: `s` of the S format. -/
def s3 (w : Word) : BitVec 3 := w.extractLsb' 4 3
/-- `w[9:3]`: `k` of the BR format, before sign extension. -/
def k7 (w : Word) : BitVec 7 := w.extractLsb' 3 7
/-- `w[11:0]`: `k` of the RJ format, before sign extension. -/
def k12 (w : Word) : BitVec 12 := w.extractLsb' 0 12
/-- `w[8:4]:w[0]:w2[15:0]`: `k` of the LONG format. -/
def k22 (w w2 : Word) : BitVec 22 := w.extractLsb' 4 5 ++ w.extractLsb' 0 1 ++ w2

/-! ### The opcode table (R185) -/

/-- One row of R185: a word `w` is of this row when `w &&& mask = pattern` (R163); `build` reads the operands. -/
structure Row where
  mask : Word
  pattern : Word
  build : Word → Word → Instr

/-- The rows of R185, in its order. -/
def opcodeRows : List Row :=
  [⟨0xFC00, 0x0C00, fun w _ => .add (d5 w) (r5 w)⟩,
   ⟨0xFC00, 0x1C00, fun w _ => .adc (d5 w) (r5 w)⟩,
   ⟨0xFF00, 0x9600, fun w _ => .adiw (dPair w) (k6 w)⟩,
   ⟨0xFC00, 0x1800, fun w _ => .sub (d5 w) (r5 w)⟩,
   ⟨0xF000, 0x5000, fun w _ => .subi (dUpper w) (k8 w)⟩,
   ⟨0xFC00, 0x0800, fun w _ => .sbc (d5 w) (r5 w)⟩,
   ⟨0xF000, 0x4000, fun w _ => .sbci (dUpper w) (k8 w)⟩,
   ⟨0xFF00, 0x9700, fun w _ => .sbiw (dPair w) (k6 w)⟩,
   ⟨0xFC00, 0x2000, fun w _ => .and (d5 w) (r5 w)⟩,
   ⟨0xF000, 0x7000, fun w _ => .andi (dUpper w) (k8 w)⟩,
   ⟨0xFC00, 0x2800, fun w _ => .or (d5 w) (r5 w)⟩,
   ⟨0xF000, 0x6000, fun w _ => .ori (dUpper w) (k8 w)⟩,
   ⟨0xFC00, 0x2400, fun w _ => .eor (d5 w) (r5 w)⟩,
   ⟨0xFE0F, 0x9400, fun w _ => .com (d5 w)⟩,
   ⟨0xFE0F, 0x9401, fun w _ => .neg (d5 w)⟩,
   ⟨0xFE0F, 0x9403, fun w _ => .inc (d5 w)⟩,
   ⟨0xFE0F, 0x940A, fun w _ => .dec (d5 w)⟩,
   ⟨0xFC00, 0x9C00, fun w _ => .mul (d5 w) (r5 w)⟩,
   ⟨0xFF00, 0x0200, fun w _ => .muls (dUpper w) (rUpper w)⟩,
   ⟨0xFF88, 0x0300, fun w _ => .mulsu (dMid w) (rMid w)⟩,
   ⟨0xFF88, 0x0308, fun w _ => .fmul (dMid w) (rMid w)⟩,
   ⟨0xFF88, 0x0380, fun w _ => .fmuls (dMid w) (rMid w)⟩] ++
  [⟨0xFF88, 0x0388, fun w _ => .fmulsu (dMid w) (rMid w)⟩,
   ⟨0xF000, 0xC000, fun w _ => .rjmp (k12 w)⟩,
   ⟨0xFFFF, 0x9409, fun _ _ => .ijmp⟩,
   ⟨0xFE0E, 0x940C, fun w w2 => .jmp (k22 w w2)⟩,
   ⟨0xF000, 0xD000, fun w _ => .rcall (k12 w)⟩,
   ⟨0xFFFF, 0x9509, fun _ _ => .icall⟩,
   ⟨0xFE0E, 0x940E, fun w w2 => .call (k22 w w2)⟩,
   ⟨0xFFFF, 0x9508, fun _ _ => .ret⟩,
   ⟨0xFFFF, 0x9518, fun _ _ => .reti⟩,
   ⟨0xFC00, 0x1000, fun w _ => .cpse (d5 w) (r5 w)⟩,
   ⟨0xFC00, 0x1400, fun w _ => .cp (d5 w) (r5 w)⟩,
   ⟨0xFC00, 0x0400, fun w _ => .cpc (d5 w) (r5 w)⟩,
   ⟨0xF000, 0x3000, fun w _ => .cpi (dUpper w) (k8 w)⟩,
   ⟨0xFE08, 0xFC00, fun w _ => .sbrc (d5 w) (b3 w)⟩,
   ⟨0xFE08, 0xFE00, fun w _ => .sbrs (d5 w) (b3 w)⟩,
   ⟨0xFF00, 0x9900, fun w _ => .sbic (a5 w) (b3 w)⟩,
   ⟨0xFF00, 0x9B00, fun w _ => .sbis (a5 w) (b3 w)⟩,
   ⟨0xFC00, 0xF000, fun w _ => .brbs (b3 w) (k7 w)⟩,
   ⟨0xFC00, 0xF400, fun w _ => .brbc (b3 w) (k7 w)⟩,
   ⟨0xFC00, 0x2C00, fun w _ => .mov (d5 w) (r5 w)⟩,
   ⟨0xFF00, 0x0100, fun w _ => .movw (dEven w) (rEven w)⟩,
   ⟨0xF000, 0xE000, fun w _ => .ldi (dUpper w) (k8 w)⟩] ++
  [⟨0xFE0F, 0x900C, fun w _ => .ldX (d5 w)⟩,
   ⟨0xFE0F, 0x900D, fun w _ => .ldXInc (d5 w)⟩,
   ⟨0xFE0F, 0x900E, fun w _ => .ldXDec (d5 w)⟩,
   ⟨0xFE0F, 0x9009, fun w _ => .ldYInc (d5 w)⟩,
   ⟨0xFE0F, 0x900A, fun w _ => .ldYDec (d5 w)⟩,
   ⟨0xD208, 0x8008, fun w _ => .lddY (d5 w) (q6 w)⟩,
   ⟨0xFE0F, 0x9001, fun w _ => .ldZInc (d5 w)⟩,
   ⟨0xFE0F, 0x9002, fun w _ => .ldZDec (d5 w)⟩,
   ⟨0xD208, 0x8000, fun w _ => .lddZ (d5 w) (q6 w)⟩,
   ⟨0xFE0F, 0x9000, fun w w2 => .lds (d5 w) w2⟩,
   ⟨0xFE0F, 0x920C, fun w _ => .stX (d5 w)⟩,
   ⟨0xFE0F, 0x920D, fun w _ => .stXInc (d5 w)⟩,
   ⟨0xFE0F, 0x920E, fun w _ => .stXDec (d5 w)⟩,
   ⟨0xFE0F, 0x9209, fun w _ => .stYInc (d5 w)⟩,
   ⟨0xFE0F, 0x920A, fun w _ => .stYDec (d5 w)⟩,
   ⟨0xD208, 0x8208, fun w _ => .stdY (q6 w) (d5 w)⟩,
   ⟨0xFE0F, 0x9201, fun w _ => .stZInc (d5 w)⟩,
   ⟨0xFE0F, 0x9202, fun w _ => .stZDec (d5 w)⟩,
   ⟨0xD208, 0x8200, fun w _ => .stdZ (q6 w) (d5 w)⟩,
   ⟨0xFE0F, 0x9200, fun w w2 => .sts w2 (d5 w)⟩,
   ⟨0xFFFF, 0x95C8, fun _ _ => .lpmR0⟩,
   ⟨0xFE0F, 0x9004, fun w _ => .lpmZ (d5 w)⟩] ++
  [⟨0xFE0F, 0x9005, fun w _ => .lpmZInc (d5 w)⟩,
   ⟨0xF800, 0xB000, fun w _ => .inIo (d5 w) (a6 w)⟩,
   ⟨0xF800, 0xB800, fun w _ => .outIo (a6 w) (d5 w)⟩,
   ⟨0xFE0F, 0x920F, fun w _ => .push (d5 w)⟩,
   ⟨0xFE0F, 0x900F, fun w _ => .pop (d5 w)⟩,
   ⟨0xFF00, 0x9A00, fun w _ => .sbi (a5 w) (b3 w)⟩,
   ⟨0xFF00, 0x9800, fun w _ => .cbi (a5 w) (b3 w)⟩,
   ⟨0xFE0F, 0x9406, fun w _ => .lsr (d5 w)⟩,
   ⟨0xFE0F, 0x9407, fun w _ => .ror (d5 w)⟩,
   ⟨0xFE0F, 0x9405, fun w _ => .asr (d5 w)⟩,
   ⟨0xFE0F, 0x9402, fun w _ => .swap (d5 w)⟩,
   ⟨0xFF8F, 0x9408, fun w _ => .bset (s3 w)⟩,
   ⟨0xFF8F, 0x9488, fun w _ => .bclr (s3 w)⟩,
   ⟨0xFE08, 0xFA00, fun w _ => .bst (d5 w) (b3 w)⟩,
   ⟨0xFE08, 0xF800, fun w _ => .bld (d5 w) (b3 w)⟩,
   ⟨0xFFFF, 0x0000, fun _ _ => .nop⟩,
   ⟨0xFFFF, 0x9588, fun _ _ => .sleep⟩,
   ⟨0xFFFF, 0x95A8, fun _ _ => .wdr⟩,
   ⟨0xFFFF, 0x9598, fun _ _ => .brk⟩]

/-- Why a word is no instruction. -/
inductive DecodeReject where
  /-- No row of R185 matches the first word (R171 classes 1 to 8). -/
  | noRow (w : Word)
  /-- The row of R185 that matches has an operand constraint and the word breaks it (R171 classes 9 and 10). -/
  | operandConstraint (w : Word)
  /-- The bytes end inside the instruction. The machine never meets it: it fetches whole words. -/
  | truncated
  deriving DecidableEq, Repr

/-- The row a first word matches (R163: the rows are disjoint, so the first one found is the only one). -/
def findRow (w : Word) : Option Row := opcodeRows.find? fun r => w &&& r.mask == r.pattern

/-- The instruction of a first word `w` and a second word `w2` (R163, R171). A one-word instruction ignores `w2`. -/
def decode (w w2 : Word) : Except DecodeReject Instr :=
  match findRow w with
  | none => .error (.noRow w)
  | some r =>
    let i := r.build w w2
    if i.wellFormed then .ok i else .error (.operandConstraint w)

/-- Decoding bytes in storage order, each word's low byte first (R108 20_memory.md): the instruction and what is left. -/
def decodeBytes : List Byte → Except DecodeReject (Instr × List Byte)
  | lo :: hi :: rest =>
    let w : Word := hi ++ lo
    if isTwoWord w then
      match rest with
      | lo2 :: hi2 :: rest2 => (decode w (hi2 ++ lo2)).map fun i => (i, rest2)
      | _ => .error .truncated
    else (decode w 0).map fun i => (i, rest)
  | _ => .error .truncated

/-- The instruction the decoder reads from a row's bits `w`, numbered as spec/opcode_table.json numbers them: bits 15..0
are the first word, bits 31..16 the second; every bit from `nbits` up is 0. -/
def decodeTableWord (nbits w : Nat) : Option Instr :=
  let v : BitVec 32 := BitVec.ofNat 32 (w % 2 ^ nbits)
  match decodeBytes [v.extractLsb' 0 8, v.extractLsb' 8 8, v.extractLsb' 16 8, v.extractLsb' 24 8] with
  | .ok (i, _) => some i
  | .error _ => none

/-! ### The encoder: the formats of R153, then the rows of R185 -/

/-- RR, `oooo oord dddd rrrr`. -/
def encRR (op : BitVec 6) (d r : BitVec 5) : Word := op ++ r.extractLsb' 4 1 ++ d ++ r.extractLsb' 0 4
/-- RK, `oooo KKKK dddd KKKK` with d = 16 + field. -/
def encRK (op : BitVec 4) (d : BitVec 5) (k : BitVec 8) : Word :=
  op ++ k.extractLsb' 4 4 ++ d.extractLsb' 0 4 ++ k.extractLsb' 0 4
/-- R1 and RS, seven bits, the register, four bits; also the first word of LDS and STS. -/
def encR1 (op : BitVec 7) (d : BitVec 5) (low : BitVec 4) : Word := op ++ d ++ low
/-- RW, `1001 011o KKdd KKKK` with d = 24 + 2 * field. -/
def encRW (op : BitVec 8) (d : BitVec 5) (k : BitVec 6) : Word :=
  op ++ k.extractLsb' 4 2 ++ d.extractLsb' 1 2 ++ k.extractLsb' 0 4
/-- MOVW, `0000 0001 dddd rrrr` with even registers. -/
def encMovw (d r : BitVec 5) : Word := 0b00000001#8 ++ d.extractLsb' 1 4 ++ r.extractLsb' 1 4
/-- MULS, `0000 0010 dddd rrrr`. -/
def encMuls (d r : BitVec 5) : Word := 0b00000010#8 ++ d.extractLsb' 0 4 ++ r.extractLsb' 0 4
/-- M3, `0000 0011 oddd orrr`. -/
def encM3 (o7 : BitVec 1) (d : BitVec 5) (o3 : BitVec 1) (r : BitVec 5) : Word :=
  0b00000011#8 ++ o7 ++ d.extractLsb' 0 3 ++ o3 ++ r.extractLsb' 0 3
/-- Q, `10q0 qqsd dddd yqqq`. -/
def encQ (q : BitVec 6) (s : BitVec 1) (d : BitVec 5) (y : BitVec 1) : Word :=
  0b10#2 ++ q.extractLsb' 5 1 ++ 0b0#1 ++ q.extractLsb' 3 2 ++ s ++ d ++ y ++ q.extractLsb' 0 3
/-- IO, `1011 sAAd dddd AAAA`. -/
def encIO (s : BitVec 1) (d : BitVec 5) (a : BitVec 6) : Word :=
  0b1011#4 ++ s ++ a.extractLsb' 4 2 ++ d ++ a.extractLsb' 0 4
/-- IOB, `1001 10oo AAAA Abbb`. -/
def encIOB (op : BitVec 2) (a : BitVec 5) (b : BitVec 3) : Word := 0b100110#6 ++ op ++ a ++ b
/-- RB, `1111 1oor rrrr 0bbb`. -/
def encRB (op : BitVec 2) (r : BitVec 5) (b : BitVec 3) : Word := 0b11111#5 ++ op ++ r ++ 0b0#1 ++ b
/-- BR, `1111 0okk kkkk ksss`. -/
def encBR (o : BitVec 1) (s : BitVec 3) (k : BitVec 7) : Word := 0b11110#5 ++ o ++ k ++ s
/-- RJ, `110o kkkk kkkk kkkk`. -/
def encRJ (o : BitVec 1) (k : BitVec 12) : Word := 0b110#3 ++ o ++ k
/-- S, `1001 0100 osss 1000`. -/
def encS (o : BitVec 1) (s : BitVec 3) : Word := 0b10010100#8 ++ o ++ s ++ 0b1000#4
/-- The first word of LONG, `1001 010k kkkk 11ok`. -/
def encLong (o : BitVec 1) (k : BitVec 22) : Word :=
  0b1001010#7 ++ k.extractLsb' 17 5 ++ 0b11#2 ++ o ++ k.extractLsb' 16 1

/-- The first word of an instruction (R185). -/
def encodeFirst : Instr → Word
  | .add d r => encRR 0b000011 d r
  | .adc d r => encRR 0b000111 d r
  | .adiw d k => encRW 0b10010110 d k
  | .sub d r => encRR 0b000110 d r
  | .subi d k => encRK 0b0101 d k
  | .sbc d r => encRR 0b000010 d r
  | .sbci d k => encRK 0b0100 d k
  | .sbiw d k => encRW 0b10010111 d k
  | .and d r => encRR 0b001000 d r
  | .andi d k => encRK 0b0111 d k
  | .or d r => encRR 0b001010 d r
  | .ori d k => encRK 0b0110 d k
  | .eor d r => encRR 0b001001 d r
  | .com d => encR1 0b1001010 d 0b0000
  | .neg d => encR1 0b1001010 d 0b0001
  | .inc d => encR1 0b1001010 d 0b0011
  | .dec d => encR1 0b1001010 d 0b1010
  | .mul d r => encRR 0b100111 d r
  | .muls d r => encMuls d r
  | .mulsu d r => encM3 0b0 d 0b0 r
  | .fmul d r => encM3 0b0 d 0b1 r
  | .fmuls d r => encM3 0b1 d 0b0 r
  | .fmulsu d r => encM3 0b1 d 0b1 r
  | .rjmp k => encRJ 0b0 k
  | .ijmp => 0x9409
  | .jmp k => encLong 0b0 k
  | .rcall k => encRJ 0b1 k
  | .icall => 0x9509
  | .call k => encLong 0b1 k
  | .ret => 0x9508
  | .reti => 0x9518
  | .cpse d r => encRR 0b000100 d r
  | .cp d r => encRR 0b000101 d r
  | .cpc d r => encRR 0b000001 d r
  | .cpi d k => encRK 0b0011 d k
  | .sbrc r b => encRB 0b10 r b
  | .sbrs r b => encRB 0b11 r b
  | .sbic a b => encIOB 0b01 a b
  | .sbis a b => encIOB 0b11 a b
  | .brbs s k => encBR 0b0 s k
  | .brbc s k => encBR 0b1 s k
  | .mov d r => encRR 0b001011 d r
  | .movw d r => encMovw d r
  | .ldi d k => encRK 0b1110 d k
  | .ldX d => encR1 0b1001000 d 0b1100
  | .ldXInc d => encR1 0b1001000 d 0b1101
  | .ldXDec d => encR1 0b1001000 d 0b1110
  | .ldYInc d => encR1 0b1001000 d 0b1001
  | .ldYDec d => encR1 0b1001000 d 0b1010
  | .lddY d q => encQ q 0b0 d 0b1
  | .ldZInc d => encR1 0b1001000 d 0b0001
  | .ldZDec d => encR1 0b1001000 d 0b0010
  | .lddZ d q => encQ q 0b0 d 0b0
  | .lds d _ => encR1 0b1001000 d 0b0000
  | .stX r => encR1 0b1001001 r 0b1100
  | .stXInc r => encR1 0b1001001 r 0b1101
  | .stXDec r => encR1 0b1001001 r 0b1110
  | .stYInc r => encR1 0b1001001 r 0b1001
  | .stYDec r => encR1 0b1001001 r 0b1010
  | .stdY q r => encQ q 0b1 r 0b1
  | .stZInc r => encR1 0b1001001 r 0b0001
  | .stZDec r => encR1 0b1001001 r 0b0010
  | .stdZ q r => encQ q 0b1 r 0b0
  | .sts _ r => encR1 0b1001001 r 0b0000
  | .lpmR0 => 0x95C8
  | .lpmZ d => encR1 0b1001000 d 0b0100
  | .lpmZInc d => encR1 0b1001000 d 0b0101
  | .inIo d a => encIO 0b0 d a
  | .outIo a r => encIO 0b1 r a
  | .push r => encR1 0b1001001 r 0b1111
  | .pop d => encR1 0b1001000 d 0b1111
  | .sbi a b => encIOB 0b10 a b
  | .cbi a b => encIOB 0b00 a b
  | .lsr d => encR1 0b1001010 d 0b0110
  | .ror d => encR1 0b1001010 d 0b0111
  | .asr d => encR1 0b1001010 d 0b0101
  | .swap d => encR1 0b1001010 d 0b0010
  | .bset s => encS 0b0 s
  | .bclr s => encS 0b1 s
  | .bst d b => encRB 0b01 d b
  | .bld d b => encRB 0b00 d b
  | .nop => 0x0000
  | .sleep => 0x9588
  | .wdr => 0x95A8
  | .brk => 0x9598

/-- The words of an instruction, first word first (R150: LDS, STS, JMP and CALL have two). -/
def encode : Instr → List Word
  | .add d r => [encodeFirst (.add d r)]
  | .adc d r => [encodeFirst (.adc d r)]
  | .adiw d k => [encodeFirst (.adiw d k)]
  | .sub d r => [encodeFirst (.sub d r)]
  | .subi d k => [encodeFirst (.subi d k)]
  | .sbc d r => [encodeFirst (.sbc d r)]
  | .sbci d k => [encodeFirst (.sbci d k)]
  | .sbiw d k => [encodeFirst (.sbiw d k)]
  | .and d r => [encodeFirst (.and d r)]
  | .andi d k => [encodeFirst (.andi d k)]
  | .or d r => [encodeFirst (.or d r)]
  | .ori d k => [encodeFirst (.ori d k)]
  | .eor d r => [encodeFirst (.eor d r)]
  | .com d => [encodeFirst (.com d)]
  | .neg d => [encodeFirst (.neg d)]
  | .inc d => [encodeFirst (.inc d)]
  | .dec d => [encodeFirst (.dec d)]
  | .mul d r => [encodeFirst (.mul d r)]
  | .muls d r => [encodeFirst (.muls d r)]
  | .mulsu d r => [encodeFirst (.mulsu d r)]
  | .fmul d r => [encodeFirst (.fmul d r)]
  | .fmuls d r => [encodeFirst (.fmuls d r)]
  | .fmulsu d r => [encodeFirst (.fmulsu d r)]
  | .rjmp k => [encodeFirst (.rjmp k)]
  | .ijmp => [encodeFirst .ijmp]
  | .jmp k => [encodeFirst (.jmp k), k.extractLsb' 0 16]
  | .rcall k => [encodeFirst (.rcall k)]
  | .icall => [encodeFirst .icall]
  | .call k => [encodeFirst (.call k), k.extractLsb' 0 16]
  | .ret => [encodeFirst .ret]
  | .reti => [encodeFirst .reti]
  | .cpse d r => [encodeFirst (.cpse d r)]
  | .cp d r => [encodeFirst (.cp d r)]
  | .cpc d r => [encodeFirst (.cpc d r)]
  | .cpi d k => [encodeFirst (.cpi d k)]
  | .sbrc r b => [encodeFirst (.sbrc r b)]
  | .sbrs r b => [encodeFirst (.sbrs r b)]
  | .sbic a b => [encodeFirst (.sbic a b)]
  | .sbis a b => [encodeFirst (.sbis a b)]
  | .brbs s k => [encodeFirst (.brbs s k)]
  | .brbc s k => [encodeFirst (.brbc s k)]
  | .mov d r => [encodeFirst (.mov d r)]
  | .movw d r => [encodeFirst (.movw d r)]
  | .ldi d k => [encodeFirst (.ldi d k)]
  | .ldX d => [encodeFirst (.ldX d)]
  | .ldXInc d => [encodeFirst (.ldXInc d)]
  | .ldXDec d => [encodeFirst (.ldXDec d)]
  | .ldYInc d => [encodeFirst (.ldYInc d)]
  | .ldYDec d => [encodeFirst (.ldYDec d)]
  | .lddY d q => [encodeFirst (.lddY d q)]
  | .ldZInc d => [encodeFirst (.ldZInc d)]
  | .ldZDec d => [encodeFirst (.ldZDec d)]
  | .lddZ d q => [encodeFirst (.lddZ d q)]
  | .lds d k => [encodeFirst (.lds d k), k]
  | .stX r => [encodeFirst (.stX r)]
  | .stXInc r => [encodeFirst (.stXInc r)]
  | .stXDec r => [encodeFirst (.stXDec r)]
  | .stYInc r => [encodeFirst (.stYInc r)]
  | .stYDec r => [encodeFirst (.stYDec r)]
  | .stdY q r => [encodeFirst (.stdY q r)]
  | .stZInc r => [encodeFirst (.stZInc r)]
  | .stZDec r => [encodeFirst (.stZDec r)]
  | .stdZ q r => [encodeFirst (.stdZ q r)]
  | .sts k r => [encodeFirst (.sts k r), k]
  | .lpmR0 => [encodeFirst .lpmR0]
  | .lpmZ d => [encodeFirst (.lpmZ d)]
  | .lpmZInc d => [encodeFirst (.lpmZInc d)]
  | .inIo d a => [encodeFirst (.inIo d a)]
  | .outIo a r => [encodeFirst (.outIo a r)]
  | .push r => [encodeFirst (.push r)]
  | .pop d => [encodeFirst (.pop d)]
  | .sbi a b => [encodeFirst (.sbi a b)]
  | .cbi a b => [encodeFirst (.cbi a b)]
  | .lsr d => [encodeFirst (.lsr d)]
  | .ror d => [encodeFirst (.ror d)]
  | .asr d => [encodeFirst (.asr d)]
  | .swap d => [encodeFirst (.swap d)]
  | .bset s => [encodeFirst (.bset s)]
  | .bclr s => [encodeFirst (.bclr s)]
  | .bst d b => [encodeFirst (.bst d b)]
  | .bld d b => [encodeFirst (.bld d b)]
  | .nop => [encodeFirst .nop]
  | .sleep => [encodeFirst .sleep]
  | .wdr => [encodeFirst .wdr]
  | .brk => [encodeFirst .brk]

/-- The bytes of an instruction in storage order (R108 20_memory.md). -/
def encodeBytes (i : Instr) : List Byte := (encode i).flatMap fun w => [lowByte w, highByte w]

end Sys2Proof
end

