-- ==== Sys2Proof/Config.lean ====
section
/-! DEFINITION. Config.lean: the implementation parameters of R11 (00_scope.md) and the one free value. -/

namespace Sys2Proof.Config

/-- `PM_WORDS`: words of program memory (R11 00_scope.md; log entry 5). -/
def pmWords : Nat := 16384

/-- `PM_BYTES = 2 * PM_WORDS` (R11). -/
def pmBytes : Nat := 2 * pmWords

/-- `SRAM_BYTES` (R11; log entry 5). -/
def sramBytes : Nat := 2048

/-- `SRAM_START` (R11). -/
def sramStart : Nat := 0x0100

/-- `DATA_END`, the last valid data address, 0x08FF (R11). -/
def dataEnd : Nat := sramStart + sramBytes - 1

/-- `INT_ENTRY_CYCLES` (R11). -/
def intEntryCycles : Nat := 4

/-- `WAKE_EXTRA_CYCLES` (R11). -/
def wakeExtraCycles : Nat := 4

/-- What an address of a memory list that is not listed reads as: program memory is zero-initialized (R102
20_memory.md), plain cells reset to 0x00 (R112); for SRAM, whose reset content the spec leaves unspecified (R111),
DESIGN CHOICE, unsafe: log entry 3. -/
def unlisted : Byte := 0

/-- FREE VALUE: the `k`-th draw of a floating pin's level (R481 60_exceptions.md: "a free 0 or 1, and two reads may
differ"); true is High. It has no body, so nothing can be proved of the level it gives. Log entry 4, safe. -/
opaque freeLevel : Nat → Bool

end Sys2Proof.Config
end

