-- ==== Sys2Proof/Machine/State.lean ====
section
/-! DEFINITION. State.lean: everything the spec gives the block, as plain data, and the state after reset
(10_state.md; R500 70_reset_and_hazards.md). -/

namespace Sys2Proof.Machine

/-- A pin level as a cycle samples it or the host injects it (R80 10_state.md). "None", "Floating" and "Unknown" are
`none` of `Option Level`. -/
inductive Level where
  | low
  | high
  deriving DecidableEq, Repr

/-- The count direction in the dual-slope modes (R81 10_state.md). -/
inductive Dir where
  | up
  | down
  deriving DecidableEq, Repr

/-- The three ports (R76 10_state.md). -/
inductive PortId where
  | b
  | c
  | d
  deriving DecidableEq, Repr

/-- The two timers (R440 60_exceptions.md). -/
inductive TimerId where
  | t0
  | t1
  deriving DecidableEq, Repr

/-- The two compare channels of a timer (R444 60_exceptions.md). -/
inductive Channel where
  | a
  | b
  deriving DecidableEq, Repr

/-- The stop reasons of R400 (60_exceptions.md) with the information each records. They are what `State.halted` holds:
a fault of the block IS a state of the block (R402), so `exec` and `step` take it as a next state whose `halted` is set,
and no step answers `Host.Outcome.fault` (log entry 1; safe: no behaviour of the block is lost). -/
inductive Fault where
  /-- Code 1. Raised by an instruction step whose first word `w` at `pc` is no instruction (R401). Safe. -/
  | decodeError (pc w : Word)
  /-- Code 2. Raised by a fetch, or a skip's length fetch, at word address `w` beyond program memory (R103). Safe. -/
  | fetchOutOfRange (w : Word)
  /-- Code 3. Raised by a data access at address `a` beyond `DATA_END` (R110). Safe. -/
  | dataAddressOutOfRange (a : Word)
  /-- Code 4. Raised by LPM at byte address `b` beyond program memory (R104). Safe. -/
  | programReadOutOfRange (b : Word)
  /-- Code 5, Break. Raised by BREAK at `pc` (R383). Safe. -/
  | breakpoint (pc : Word)
  /-- Code 6. Raised by a timer tick in a reserved waveform mode, with the timer and its WGM value (R455). Safe. -/
  | timerModeReserved (t : TimerId) (wgm : Nat)
  deriving DecidableEq, Repr

/-- Why the model has no move. -/
inductive Refusal where
  /-- An instruction that has no meaning yet; `exec` would answer it. No arm of this model does. Safe. -/
  | notModelled (mnemonic : String)
  /-- ConfigurationError: `construct` builds no block from a program that is too large (R404, R511). The host's error,
  raised by no step. Safe. -/
  | configurationError
  deriving DecidableEq, Repr

/-- The three outcomes over this machine's types. -/
abbrev Out (σ : Type) := Host.Outcome σ Fault Refusal

/-- A memory: the bytes that differ from `Config.unlisted`, at strictly rising addresses (`Memory.wf`). -/
abbrev Memory := List Host.Cell

/-- One GPIO port (R76 to R80 10_state.md). -/
structure Port where
  /-- DDRP: bit n = 1 makes pin Pn an output (R77). -/
  ddr : Byte
  /-- PORTP: the data register (R78). -/
  port : Byte
  /-- ext[P][n]: the host-injected level of each pin (R80). -/
  ext : Vector (Option Level) 8
  deriving DecidableEq, Repr

/-- What Timer0 (n = 8) and Timer1 (n = 16) both have (R63 to R75, R81 10_state.md). -/
structure Timer (n : Nat) where
  /-- TCCRnA (R63, R69). -/
  tccrA : Byte
  /-- TCCRnB without the strobes (R64, R70). -/
  tccrB : Byte
  /-- TCNTn (R65, R72). -/
  count : BitVec n
  /-- OCRnA as the CPU reads and writes it (R66, R118). -/
  ocrABuf : BitVec n
  /-- OCRnB as the CPU reads and writes it. -/
  ocrBBuf : BitVec n
  /-- ocrnA_act, the active compare value (R81). -/
  ocrAAct : BitVec n
  /-- ocrnB_act. -/
  ocrBAct : BitVec n
  /-- TIMSKn (R67, R73). -/
  timsk : Byte
  /-- TIFRn (R68, R74). -/
  tifr : Byte
  /-- psc_n, the prescaler count (R441). -/
  psc : Nat
  /-- dir_n (R451). -/
  dir : Dir
  /-- cmpBlock_n (R452). -/
  cmpBlock : Bool
  /-- extClkPrev_n, `none` for Unknown (R442). -/
  extClkPrev : Option Level
  deriving DecidableEq, Repr

/-- The state of the block. -/
structure State where
  /-- R0..R31 (R30). -/
  regs : Vector Byte 32
  /-- The program counter, a word address (R35). -/
  pc : Word
  /-- SREG: I T H S V N Z C in bits 7..0 (R40). -/
  sreg : Byte
  /-- The stack pointer SPH:SPL (R45). -/
  sp : Word
  /-- The cycle counter (R48). -/
  cycles : Nat
  /-- SMCR (R62). -/
  smcr : Byte
  portB : Port
  portC : Port
  portD : Port
  timer0 : Timer 8
  timer1 : Timer 16
  /-- ICR1 (R72, R461). -/
  icr1 : Word
  /-- TEMP1 (R75). -/
  temp1 : Byte
  /-- icpLevel, `none` for Unknown (R462). -/
  icpLevel : Option Level
  /-- icpCount, the noise canceller's run length (R462). -/
  icpCount : Nat
  /-- irqInhibit (R425). -/
  irqInhibit : Bool
  /-- sleeping (R471). -/
  sleeping : Bool
  /-- halted, the stop record (R402). -/
  halted : Option Fault
  /-- The plain cells of 0x20..0xFF (R112) and SRAM (R111), by data address. -/
  mem : Memory
  /-- Program memory by program byte address, a word's low byte at the even one (R101, R106). -/
  prog : Memory
  /-- THE MODEL'S OWN: how many free values have been drawn (log entry 4). -/
  draws : Nat
  deriving DecidableEq, Repr

/-- A port after reset (R60, R500). -/
def Port.reset : Port := { ddr := 0, port := 0, ext := Vector.replicate 8 none }

/-- A timer after reset (R60, R81). -/
def Timer.reset (n : Nat) : Timer n :=
  { tccrA := 0, tccrB := 0, count := 0, ocrABuf := 0, ocrBBuf := 0, ocrAAct := 0, ocrBAct := 0, timsk := 0, tifr := 0
    psc := 0, dir := .up, cmpBlock := false, extClkPrev := none }

/-- The block after construction with empty program memory (R82 10_state.md, R500 70_reset_and_hazards.md). R0..R31 and
SRAM, which the spec leaves unspecified, are 0x00: DESIGN CHOICE, unsafe (log entries 2 and 3). -/
def State.reset : State :=
  { regs := Vector.replicate 32 0
    pc := 0
    sreg := 0
    sp := BitVec.ofNat 16 Config.dataEnd
    cycles := 0
    smcr := 0
    portB := Port.reset
    portC := Port.reset
    portD := Port.reset
    timer0 := Timer.reset 8
    timer1 := Timer.reset 16
    icr1 := 0
    temp1 := 0
    icpLevel := none
    icpCount := 0
    irqInhibit := false
    sleeping := false
    halted := none
    mem := []
    prog := []
    draws := 0 }

end Sys2Proof.Machine
end

