-- ==== Sys2Proof/Machine/Ports.lean ====
section
/-! DEFINITION. Machine/Ports.lean: pin levels, PIN reads and toggles, and what a timer's compare output does to its pin
(R480 to R486 60_exceptions.md). -/

namespace Sys2Proof.Machine

/-- The port named `p`. -/
def State.portOf (s : State) : PortId → Port
  | .b => s.portB
  | .c => s.portC
  | .d => s.portD

/-- `s` with the port named `p` replaced. -/
def State.setPort (s : State) (p : PortId) (v : Port) : State :=
  match p with
  | .b => { s with portB := v }
  | .c => { s with portC := v }
  | .d => { s with portD := v }

/-- A bit as a level: 1 is High (R481). -/
def Level.ofBit (b : Bool) : Level := if b then .high else .low

/-- `level(P, n)` of R481; `none` is Floating. -/
def Port.level (p : Port) (n : Fin 8) : Option Level :=
  if p.ddr.getLsbD n then some (Level.ofBit (p.port.getLsbD n))
  else
    match p.ext.get n with
    | some l => some l
    | none => if p.port.getLsbD n then some .high else none

/-- The level of pin `n` with the free value number `k` where it floats (R481: "a draw: a free 0 or 1"). -/
def Port.drawnLevel (p : Port) (n : Fin 8) (k : Nat) : Level :=
  match p.level n with
  | some l => l
  | none => Level.ofBit (Config.freeLevel k)

/-- Bit `n` of a CPU read of PINP that starts at draw `k`. -/
def Port.pinBit (p : Port) (n : Fin 8) (k : Nat) : Bool := p.drawnLevel n (k + n) == .high

/-- The byte a CPU read of PINP returns (R481): bit n uses draw `k + n` where pin n floats. -/
def Port.pinByte (p : Port) (k : Nat) : Byte :=
  BitVec.ofBool (p.pinBit 7 k) ++ BitVec.ofBool (p.pinBit 6 k) ++ BitVec.ofBool (p.pinBit 5 k) ++
    BitVec.ofBool (p.pinBit 4 k) ++ BitVec.ofBool (p.pinBit 3 k) ++ BitVec.ofBool (p.pinBit 2 k) ++
    BitVec.ofBool (p.pinBit 1 k) ++ BitVec.ofBool (p.pinBit 0 k)

/-- A CPU write of `v` to PINP: each 1 toggles its PORTP bit (R484). -/
def Port.toggle (p : Port) (v : Byte) : Port := { p with port := p.port ^^^ v }

/-- What a compare output does to its pin (R453). -/
inductive PinAct where
  /-- None: the pin is left alone. -/
  | keep
  | set
  | clear
  | toggle
  deriving DecidableEq, Repr

/-- The action on a port's pin `n`: dropped on an input, otherwise it writes the data register bit (R482). -/
def Port.act (p : Port) (n : Fin 8) (a : PinAct) : Port :=
  if p.ddr.getLsbD n then
    match a with
    | .keep => p
    | .set => { p with port := setBit p.port n true }
    | .clear => { p with port := setBit p.port n false }
    | .toggle => { p with port := setBit p.port n (!p.port.getLsbD n) }
  else p

/-- The pin each compare output is wired to (R454). -/
def outputPin : TimerId → Channel → PortId × Fin 8
  | .t0, .a => (.d, 6)
  | .t0, .b => (.d, 5)
  | .t1, .a => (.b, 1)
  | .t1, .b => (.b, 2)

/-- T0 = PD4, T1 = PD5 (R442, R454). -/
def clockPin : TimerId → PortId × Fin 8
  | .t0 => (.d, 4)
  | .t1 => (.d, 5)

/-- ICP1 = PB0 (R462, R454). -/
def capturePin : PortId × Fin 8 := (.b, 0)

/-- `PinAction(t, X, a)` of R482. -/
def State.pinAction (s : State) (t : TimerId) (x : Channel) (a : PinAct) : State :=
  s.setPort (outputPin t x).1 ((s.portOf (outputPin t x).1).act (outputPin t x).2 a)

/-- The Arduino pins (R23 00_scope.md): 0..7 are PD0..PD7, 8..13 are PB0..PB5, and A0..A5 (14..19 here) are PC0..PC5. -/
def arduinoPin (k : Nat) : Option (PortId × Nat) :=
  if k < 8 then some (.d, k) else if k < 14 then some (.b, k - 8) else if k < 20 then some (.c, k - 14) else none

end Sys2Proof.Machine
end

