-- ==== Sys2Proof/Machine/Timers.lean ====
section
/-! DEFINITION. Machine/Timers.lean: prescaler, waveform modes, compare outputs and one tick of a timer, as functions of
the timer's own registers (R440 to R461 60_exceptions.md). -/

namespace Sys2Proof.Machine

/-! ### Register fields -/

/-- CSn2:0 (R64, R70 10_state.md). -/
def Timer.cs {n : Nat} (t : Timer n) : BitVec 3 := t.tccrB.extractLsb' 0 3

/-- COMnX1:0 (R63, R69). -/
def Timer.com {n : Nat} (t : Timer n) : Channel → BitVec 2
  | .a => t.tccrA.extractLsb' 6 2
  | .b => t.tccrA.extractLsb' 4 2

/-- WGM of Timer0: `TCCR0B[3] : TCCR0A[1:0]` (R444). -/
def Timer.wgm0 (t : Timer 8) : BitVec 3 := t.tccrB.extractLsb' 3 1 ++ t.tccrA.extractLsb' 0 2

/-- WGM of Timer1: `TCCR1B[4:3] : TCCR1A[1:0]` (R444). -/
def Timer.wgm1 (t : Timer 16) : BitVec 4 := t.tccrB.extractLsb' 3 2 ++ t.tccrA.extractLsb' 0 2

/-- The flag and enable bits of TIFRn and TIMSKn (R67, R68, R73, R74). -/
def tovBit : Nat := 0
def ocfBit : Channel → Nat
  | .a => 1
  | .b => 2
def icfBit : Nat := 5

/-- TIFRn with flag bit `i` set. -/
def Timer.raiseFlag {n : Nat} (t : Timer n) (i : Nat) (b : Bool) : Timer n :=
  { t with tifr := if b then setBit t.tifr i true else t.tifr }

/-! ### Waveform modes -/

/-- `kind(t)` of R444. -/
inductive WaveKind where
  | normal
  | ctc
  | fast
  | pc
  | pfc
  | reserved
  deriving DecidableEq, Repr

/-- The TOP column of R450 and R460. -/
inductive TopSource (n : Nat) where
  | const (v : BitVec n)
  | ocrA
  | icr1
  deriving DecidableEq, Repr

/-- One row of R450 or R460. `toggleA`: COM = 01 toggles channel A in this PWM mode (R453). -/
structure WaveMode (n : Nat) where
  kind : WaveKind
  top : TopSource n
  toggleA : Bool
  deriving DecidableEq, Repr

/-- The row of a mode that counts nothing: it is reserved. -/
def WaveMode.reserved (n : Nat) : WaveMode n := ⟨.reserved, .const 0, false⟩

/-- R450: the waveform modes of Timer0. COM0A = 01 toggles in modes 5 and 7 (R453). -/
def waveModes0 : List (WaveMode 8) :=
  [⟨.normal, .const 0xFF, false⟩,
   ⟨.pc, .const 0xFF, false⟩,
   ⟨.ctc, .ocrA, false⟩,
   ⟨.fast, .const 0xFF, false⟩,
   WaveMode.reserved 8,
   ⟨.pc, .ocrA, true⟩,
   WaveMode.reserved 8,
   ⟨.fast, .ocrA, true⟩]

/-- R460: the waveform modes of Timer1. COM1A = 01 toggles in modes 9, 11, 14 and 15 (R453). -/
def waveModes1 : List (WaveMode 16) :=
  [⟨.normal, .const 0xFFFF, false⟩,
   ⟨.pc, .const 0x00FF, false⟩,
   ⟨.pc, .const 0x01FF, false⟩,
   ⟨.pc, .const 0x03FF, false⟩,
   ⟨.ctc, .ocrA, false⟩,
   ⟨.fast, .const 0x00FF, false⟩,
   ⟨.fast, .const 0x01FF, false⟩,
   ⟨.fast, .const 0x03FF, false⟩,
   ⟨.pfc, .icr1, false⟩,
   ⟨.pfc, .ocrA, true⟩,
   ⟨.pc, .icr1, false⟩,
   ⟨.pc, .ocrA, true⟩,
   ⟨.ctc, .icr1, false⟩,
   WaveMode.reserved 16,
   ⟨.fast, .icr1, true⟩,
   ⟨.fast, .ocrA, true⟩]

/-- The waveform mode Timer0 is in. -/
def Timer.mode0 (t : Timer 8) : WaveMode 8 := waveModes0.getD t.wgm0.toNat (WaveMode.reserved 8)

/-- The waveform mode Timer1 is in. -/
def Timer.mode1 (t : Timer 16) : WaveMode 16 := waveModes1.getD t.wgm1.toNat (WaveMode.reserved 16)

/-- `isPWM` of R444. -/
def WaveMode.isPwm {n : Nat} (m : WaveMode n) : Bool :=
  m.kind == .fast || m.kind == .pc || m.kind == .pfc

/-- A dual-slope mode (R444). -/
def WaveMode.isDual {n : Nat} (m : WaveMode n) : Bool := m.kind == .pc || m.kind == .pfc

/-- ICR1's role is "TOP" (R460). -/
def WaveMode.icrIsTop {n : Nat} (m : WaveMode n) : Bool := m.top == .icr1

/-- ICR1's role is "capture" (R460); the reserved mode's role is neither (log entry 9). -/
def WaveMode.icrCaptures {n : Nat} (m : WaveMode n) : Bool := !m.icrIsTop && m.kind != .reserved

/-- The CPU-visible buffer of OCRnX. -/
def Timer.buf {n : Nat} (t : Timer n) : Channel → BitVec n
  | .a => t.ocrABuf
  | .b => t.ocrBBuf

/-- `cmpVal(t, X)` of R444. -/
def Timer.cmpVal {n : Nat} (t : Timer n) (m : WaveMode n) : Channel → BitVec n
  | .a => if m.isPwm then t.ocrAAct else t.ocrABuf
  | .b => if m.isPwm then t.ocrBAct else t.ocrBBuf

/-- `TOP(t)` of R444, with the value of ICR1. -/
def Timer.topVal {n : Nat} (t : Timer n) (m : WaveMode n) (icr : BitVec n) : BitVec n :=
  match m.top with
  | .const v => v
  | .ocrA => t.cmpVal m .a
  | .icr1 => icr

/-- A CPU write to OCRnX: the buffer, and the active value at once outside the PWM modes (R114, R118 20_memory.md). -/
def Timer.writeOcr {n : Nat} (t : Timer n) (m : WaveMode n) (x : Channel) (v : BitVec n) : Timer n :=
  match x with
  | .a => { t with ocrABuf := v, ocrAAct := if m.isPwm then t.ocrAAct else v }
  | .b => { t with ocrBBuf := v, ocrBAct := if m.isPwm then t.ocrBAct else v }

/-! ### Compare output actions (R453) -/

/-- Channel A toggles on COM = 01 in the modes R453 names. -/
def WaveMode.toggles {n : Nat} (m : WaveMode n) (x : Channel) : Bool := m.toggleA && x == .a

/-- `MatchAction(t, X, moveUp)`. -/
def matchAction {n : Nat} (m : WaveMode n) (com : BitVec 2) (x : Channel) (moveUp : Bool) : PinAct :=
  match m.kind with
  | .normal | .ctc => if com = 0 then .keep else if com = 1 then .toggle else if com = 2 then .clear else .set
  | .fast =>
    if com = 0 then .keep
    else if com = 1 then (if m.toggles x then .toggle else .keep)
    else if com = 2 then .clear else .set
  | .pc | .pfc =>
    if com = 0 then .keep
    else if com = 1 then (if m.toggles x then .toggle else .keep)
    else if com = 2 then (if moveUp then .clear else .set)
    else (if moveUp then .set else .clear)
  | .reserved => .keep

/-- `BottomAction(t, X)`. -/
def bottomAction {n : Nat} (m : WaveMode n) (com : BitVec 2) : PinAct :=
  match m.kind with
  | .fast => if com = 2 then .set else if com = 3 then .clear else .keep
  | .normal | .ctc | .pc | .pfc | .reserved => .keep

/-! ### The prescaler (R441, R442) -/

/-- The division factor N of CS = 1..5; 0 for the other codes, which do not divide. -/
def divisor (cs : BitVec 3) : Nat := [0, 1, 8, 64, 256, 1024, 0, 0].getD cs.toNat 0

/-- `ExtEdge` of R442: `falling` for CS = 6, else rising. -/
def extEdge (prev : Option Level) (l : Level) (falling : Bool) : Bool :=
  if falling then prev == some .high && l == .low else prev == some .low && l == .high

/-- `TickDue` of R441 with the clock pin's level `l`: the new prescaler count, and whether this cycle gives a tick. -/
def Timer.tickDue {n : Nat} (t : Timer n) (l : Level) : Nat × Bool :=
  if t.cs = 0 then (t.psc, false)
  else if t.cs = 6 then (t.psc, extEdge t.extClkPrev l true)
  else if t.cs = 7 then (t.psc, extEdge t.extClkPrev l false)
  else if t.psc + 1 = divisor t.cs then (0, true)
  else (t.psc + 1, false)

/-- The timer after `TickDue`: the prescaler count, and extClkPrev set "whatever CS holds" (R442). -/
def Timer.prescaled {n : Nat} (t : Timer n) (l : Level) : Timer n :=
  { t with psc := (t.tickDue l).1, extClkPrev := some l }

/-! ### One tick (R451) -/

/-- R451 step 1, `moveUp`. -/
def Timer.movesUp {n : Nat} (t : Timer n) (m : WaveMode n) (icr : BitVec n) : Bool :=
  if m.isDual then (t.dir == .up && t.count != t.topVal m icr) || (t.dir == .down && t.count == 0) else true

/-- R451 step 2 finds a match on channel `x`. -/
def Timer.hits {n : Nat} (t : Timer n) (m : WaveMode n) (x : Channel) : Bool :=
  !t.cmpBlock && t.count == t.cmpVal m x

/-- The active compare values take the buffers' (the "OCR update" column of R450 and R460). -/
def Timer.updateOcr {n : Nat} (t : Timer n) (b : Bool) : Timer n :=
  { t with ocrAAct := if b then t.ocrABuf else t.ocrAAct, ocrBAct := if b then t.ocrBBuf else t.ocrBAct }

/-- R451 step 2: the flags of the channels that match, and the compare block lifted. -/
def Timer.compare {n : Nat} (t : Timer n) (m : WaveMode n) : Timer n :=
  { (t.raiseFlag (ocfBit .a) (t.hits m .a)).raiseFlag (ocfBit .b) (t.hits m .b) with cmpBlock := false }

/-- R451 step 3: the count and the events of leaving a value. The reserved kind does not tick (R455). -/
def Timer.advance {n : Nat} (t : Timer n) (m : WaveMode n) (top : BitVec n) : Timer n :=
  match m.kind with
  | .normal => { t with count := t.count + 1 }.raiseFlag tovBit (t.count == BitVec.allOnes n)
  | .ctc =>
    ({ t with count := if t.count = top then 0 else t.count + 1 }.raiseFlag tovBit
      (t.count == BitVec.allOnes n)).raiseFlag icfBit (t.count == top && m.icrIsTop)
  | .fast =>
    if t.count = top then
      (({ t with count := 0 }.raiseFlag tovBit true).updateOcr true).raiseFlag icfBit m.icrIsTop
    else { t with count := t.count + 1 }
  | .pc | .pfc =>
    match t.dir with
    | .up =>
      if t.count = top then
        ({ t with dir := .down, count := if top = 0 then 0 else t.count - 1 }.updateOcr (m.kind == WaveKind.pc)).raiseFlag
          icfBit m.icrIsTop
      else { t with count := t.count + 1 }
    | .down =>
      if t.count = 0 then
        ({ t with dir := .up, count := if top = 0 then 0 else 1 }.raiseFlag tovBit true).updateOcr (m.kind == WaveKind.pfc)
      else { t with count := t.count - 1 }
  | .reserved => t

/-- The timer after one tick (R451). `icr` is ICR1; TOP is taken once, at the start. -/
def Timer.tick {n : Nat} (t : Timer n) (m : WaveMode n) (icr : BitVec n) : Timer n :=
  (t.compare m).advance m (t.topVal m icr)

/-- The tick is the wrap of a fast mode (R451). -/
def Timer.wraps {n : Nat} (t : Timer n) (m : WaveMode n) (icr : BitVec n) : Bool :=
  m.kind == .fast && t.count == t.topVal m icr

/-- The match action of a tick on channel `x`: none unless the channel matches (R451 step 2). -/
def Timer.tickMatch {n : Nat} (t : Timer n) (m : WaveMode n) (icr : BitVec n) (x : Channel) : PinAct :=
  if t.hits m x then matchAction m (t.com x) x (t.movesUp m icr) else .keep

/-- The bottom action of a tick on channel `x`: none unless the tick is a wrap (R451 step 3). -/
def Timer.tickBottom {n : Nat} (t : Timer n) (m : WaveMode n) (icr : BitVec n) (x : Channel) : PinAct :=
  if t.wraps m icr then bottomAction m (t.com x) else .keep

/-- The pin actions of a tick of timer `id`, in the order of R451: the matches of A and B, then the bottoms of A and B.
`t` is the timer before the tick. -/
def State.tickPins {n : Nat} (s : State) (id : TimerId) (t : Timer n) (m : WaveMode n) (icr : BitVec n) : State :=
  (((s.pinAction id .a (t.tickMatch m icr .a)).pinAction id .b (t.tickMatch m icr .b)).pinAction id .a
    (t.tickBottom m icr .a)).pinAction id .b (t.tickBottom m icr .b)

/-! ### Force output compare (R456) -/

/-- The action of an FOC strobe on channel `x`: the match action in a Normal or CTC mode, nothing otherwise. -/
def forceAction {n : Nat} (m : WaveMode n) (com : BitVec 2) (x : Channel) (strobe : Bool) : PinAct :=
  if strobe && (m.kind == .normal || m.kind == .ctc) then matchAction m com x true else .keep

end Sys2Proof.Machine
end

