-- ==== Sys2Proof/Machine/IoRegs.lean ====
section
/-! DEFINITION. Machine/IoRegs.lean: the block-owned registers, where they stand, and what reading and writing each does
(R60 10_state.md; R113, R114, R116, R118 20_memory.md). -/

namespace Sys2Proof.Machine

/-- The 33 block-owned registers of R60. -/
inductive IoReg where
  | pin (p : PortId)
  | ddr (p : PortId)
  | port (p : PortId)
  | tifr0
  | tifr1
  | tccr0a
  | tccr0b
  | tcnt0
  | ocr0 (x : Channel)
  | smcr
  | spl
  | sph
  | sreg
  | timsk0
  | timsk1
  | tccr1a
  | tccr1b
  | tccr1c
  | tcnt1l
  | tcnt1h
  | icr1l
  | icr1h
  | ocr1l (x : Channel)
  | ocr1h (x : Channel)
  deriving DecidableEq, Repr

/-- The table of R60, in its order. -/
def ioTable : List (Word × IoReg) :=
  [(0x23, .pin .b), (0x24, .ddr .b), (0x25, .port .b), (0x26, .pin .c), (0x27, .ddr .c), (0x28, .port .c),
   (0x29, .pin .d), (0x2A, .ddr .d), (0x2B, .port .d), (0x35, .tifr0), (0x36, .tifr1), (0x44, .tccr0a),
   (0x45, .tccr0b), (0x46, .tcnt0), (0x47, .ocr0 .a), (0x48, .ocr0 .b), (0x53, .smcr), (0x5D, .spl), (0x5E, .sph),
   (0x5F, .sreg), (0x6E, .timsk0), (0x6F, .timsk1), (0x80, .tccr1a), (0x81, .tccr1b), (0x82, .tccr1c),
   (0x84, .tcnt1l), (0x85, .tcnt1h), (0x86, .icr1l), (0x87, .icr1h), (0x88, .ocr1l .a), (0x89, .ocr1h .a),
   (0x8A, .ocr1l .b), (0x8B, .ocr1h .b)]

/-- The block-owned register at data address `a`, if there is one. -/
def ioRegAt (a : Word) : Option IoReg := ioTable.lookup a

/-! ### Implemented bits: the others read 0 and ignore writes (R61 10_state.md) -/

/-- TCCR0A and TCCR1A: bits 7:4 and 1:0 (R63, R69). -/
def maskTccrA : Byte := 0xF3
/-- TCCR0B as stored: bits 3:0; the strobes FOC0A and FOC0B read 0 (R64). -/
def maskTccr0b : Byte := 0x0F
/-- TCCR1B: bits 7:6 and 4:0 (R70). -/
def maskTccr1b : Byte := 0xDF
/-- TIMSK0 and TIFR0: bits 2:0 (R67, R68). -/
def maskFlags0 : Byte := 0x07
/-- TIMSK1 and TIFR1: bits 5 and 2:0 (R73, R74). -/
def maskFlags1 : Byte := 0x27
/-- SMCR: bits 3:0 (R62). -/
def maskSmcr : Byte := 0x0F

/-! ### Reads (R113, R118) -/

/-- A CPU read of block-owned register `r`: the value, and the state after its side effect, if any. -/
def State.readIo (s : State) (r : IoReg) : Byte × State :=
  match r with
  | .pin p => ((s.portOf p).pinByte s.draws, { s with draws := s.draws + 8 })
  | .ddr p => ((s.portOf p).ddr, s)
  | .port p => ((s.portOf p).port, s)
  | .tifr0 => (s.timer0.tifr &&& maskFlags0, s)
  | .tifr1 => (s.timer1.tifr &&& maskFlags1, s)
  | .tccr0a => (s.timer0.tccrA &&& maskTccrA, s)
  | .tccr0b => (s.timer0.tccrB &&& maskTccr0b, s)
  | .tcnt0 => (s.timer0.count, s)
  | .ocr0 x => (s.timer0.buf x, s)
  | .smcr => (s.smcr &&& maskSmcr, s)
  | .spl => (lowByte s.sp, s)
  | .sph => (highByte s.sp, s)
  | .sreg => (s.sreg, s)
  | .timsk0 => (s.timer0.timsk &&& maskFlags0, s)
  | .timsk1 => (s.timer1.timsk &&& maskFlags1, s)
  | .tccr1a => (s.timer1.tccrA &&& maskTccrA, s)
  | .tccr1b => (s.timer1.tccrB &&& maskTccr1b, s)
  | .tccr1c => (0, s)
  | .tcnt1l => (lowByte s.timer1.count, { s with temp1 := highByte s.timer1.count })
  | .tcnt1h => (s.temp1, s)
  | .icr1l => (lowByte s.icr1, { s with temp1 := highByte s.icr1 })
  | .icr1h => (s.temp1, s)
  | .ocr1l x => (lowByte (s.timer1.buf x), s)
  | .ocr1h x => (highByte (s.timer1.buf x), s)

/-! ### Writes (R114, R118) -/

/-- A CPU write of `v` to TCCRnB as stored under `mask`: psc_n restarts if CS changes (R114, R441). -/
def Timer.writeTccrB {n : Nat} (t : Timer n) (mask v : Byte) : Timer n :=
  { t with tccrB := v &&& mask, psc := if (v &&& mask).extractLsb' 0 3 = t.cs then t.psc else 0 }

/-- The FOC strobes `a` and `b` of Timer0, in the mode of the state `s` (R456). -/
def State.force0 (s : State) (a b : Bool) : State :=
  (s.pinAction .t0 .a (forceAction s.timer0.mode0 (s.timer0.com .a) .a a)).pinAction .t0 .b
    (forceAction s.timer0.mode0 (s.timer0.com .b) .b b)

/-- The FOC strobes `a` and `b` of Timer1 (R456). -/
def State.force1 (s : State) (a b : Bool) : State :=
  (s.pinAction .t1 .a (forceAction s.timer1.mode1 (s.timer1.com .a) .a a)).pinAction .t1 .b
    (forceAction s.timer1.mode1 (s.timer1.com .b) .b b)

/-- A CPU write of `v` to block-owned register `r`. -/
def State.writeIo (s : State) (r : IoReg) (v : Byte) : State :=
  match r with
  | .pin p => s.setPort p ((s.portOf p).toggle v)
  | .ddr p => s.setPort p { s.portOf p with ddr := v }
  | .port p => s.setPort p { s.portOf p with port := v }
  | .tifr0 => { s with timer0 := { s.timer0 with tifr := s.timer0.tifr &&& ~~~(v &&& maskFlags0) } }
  | .tifr1 => { s with timer1 := { s.timer1 with tifr := s.timer1.tifr &&& ~~~(v &&& maskFlags1) } }
  | .tccr0a => { s with timer0 := { s.timer0 with tccrA := v &&& maskTccrA } }
  | .tccr0b => { s with timer0 := s.timer0.writeTccrB maskTccr0b v }.force0 (v.getLsbD 7) (v.getLsbD 6)
  | .tcnt0 => { s with timer0 := { s.timer0 with count := v, cmpBlock := true } }
  | .ocr0 x => { s with timer0 := s.timer0.writeOcr s.timer0.mode0 x v }
  | .smcr => { s with smcr := v &&& maskSmcr }
  | .spl => { s with sp := highByte s.sp ++ v }
  | .sph => { s with sp := v ++ lowByte s.sp }
  | .sreg => { s with sreg := v }
  | .timsk0 => { s with timer0 := { s.timer0 with timsk := v &&& maskFlags0 } }
  | .timsk1 => { s with timer1 := { s.timer1 with timsk := v &&& maskFlags1 } }
  | .tccr1a => { s with timer1 := { s.timer1 with tccrA := v &&& maskTccrA } }
  | .tccr1b => { s with timer1 := s.timer1.writeTccrB maskTccr1b v }
  | .tccr1c => s.force1 (v.getLsbD 7) (v.getLsbD 6)
  | .tcnt1l => { s with timer1 := { s.timer1 with count := s.temp1 ++ v, cmpBlock := true } }
  | .tcnt1h => { s with temp1 := v }
  | .icr1l => { s with icr1 := if s.timer1.mode1.icrIsTop then s.temp1 ++ v else s.icr1 }
  | .icr1h => { s with temp1 := v }
  | .ocr1l x => { s with timer1 := s.timer1.writeOcr s.timer1.mode1 x (s.temp1 ++ v) }
  | .ocr1h _ => { s with temp1 := v }

end Sys2Proof.Machine
end

