-- ==== Sys2Proof/Machine/Ops.lean ====
section
/-! DEFINITION. Machine/Ops.lean: the named operations over registers, memory, stack and program memory; raising a fault;
taking an interrupt and returning from one. An operation that may raise takes what follows it as a continuation: it is
not run after a raise (R17 00_scope.md: "raise F(info) stops the instruction"). -/

namespace Sys2Proof.Machine

/-! ### Registers (R30 to R33 10_state.md) -/

/-- `x[d]`. -/
def State.reg (s : State) (d : BitVec 5) : Byte := s.regs.get d.toFin

/-- `x[d] <- v`. -/
def State.setReg (s : State) (d : BitVec 5) (v : Byte) : State := { s with regs := s.regs.set d.toNat v d.isLt }

/-- `x[d+1]:x[d]`, the low byte in the lower-numbered register (R33, R108). -/
def State.pair (s : State) (d : BitVec 5) : Word := s.reg (d + 1) ++ s.reg d

/-- Write a pair: first the low register, then the high one. -/
def State.setPair (s : State) (d : BitVec 5) (v : Word) : State :=
  (s.setReg d (lowByte v)).setReg (d + 1) (highByte v)

/-- `pc <- v`. -/
def State.setPc (s : State) (v : Word) : State := { s with pc := v }

/-- `SREG <- v`. -/
def State.setSreg (s : State) (v : Byte) : State := { s with sreg := v }

/-- `SP <- v`. -/
def State.setSp (s : State) (v : Word) : State := { s with sp := v }

/-- `irqInhibit <- b`. -/
def State.setIrqInhibit (s : State) (b : Bool) : State := { s with irqInhibit := b }

/-- `sleeping <- b`. -/
def State.setSleeping (s : State) (b : Bool) : State := { s with sleeping := b }

/-- Charge a cost to the cycle counter (R48; the peripherals advance by it afterwards, R502). -/
def State.charge (s : State) (cost : Nat) : State := { s with cycles := s.cycles + cost }

/-- The end of an instruction that goes on at `target`: the next pc and the cost (R18 00_scope.md). -/
def State.goto (s : State) (target : Word) (cost : Nat) : State := (s.setPc target).charge cost

/-- The end of an instruction of `words` words that falls through (R36 10_state.md). -/
def State.fall (s : State) (words : Word) (cost : Nat) : State := s.goto (s.pc + words) cost

/-! ### Raising a fault (R17 00_scope.md, R400 and R402 60_exceptions.md) -/

/-- `raise F(info)`: the halt record and nothing else. -/
def State.raise (s : State) (f : Fault) : State := { s with halted := some f }

/-- The code of a stop reason (R400). -/
def Fault.code : Fault → Nat
  | .decodeError _ _ => 1
  | .fetchOutOfRange _ => 2
  | .dataAddressOutOfRange _ => 3
  | .programReadOutOfRange _ => 4
  | .breakpoint _ => 5
  | .timerModeReserved _ _ => 6

/-! ### The data space (R110 20_memory.md) -/

/-- The data byte the model stores at address `a` of SRAM or of a plain cell. -/
def State.ram (s : State) (a : Word) : Byte := Memory.read s.mem a.toNat

/-- Store a byte of SRAM or of a plain cell. -/
def State.setRam (s : State) (a : Word) (v : Byte) : State := { s with mem := Memory.write s.mem a.toNat v }

/-- The data address exists (R120). -/
def dataValid (a : Word) : Bool := decide (a.toNat ≤ Config.dataEnd)

/-- What stands at a data address that exists (R110's routing). -/
inductive Place where
  | register (d : BitVec 5)
  | io (r : IoReg)
  | cell
  deriving DecidableEq, Repr

/-- `route(a)` of R110, for an address that exists. -/
def route (a : Word) : Place :=
  if a.toNat ≤ 0x1F then .register (a.extractLsb' 0 5)
  else
    match ioRegAt a with
    | some r => .io r
    | none => .cell

/-- A read of an address that exists: the byte and the state after the read. -/
def State.readAt (s : State) (a : Word) : Byte × State :=
  match route a with
  | .register d => (s.reg d, s)
  | .io r => s.readIo r
  | .cell => (s.ram a, s)

/-- A write to an address that exists. -/
def State.writeAt (s : State) (a : Word) (v : Byte) : State :=
  match route a with
  | .register d => s.setReg d v
  | .io r => s.writeIo r v
  | .cell => s.setRam a v

/-- `MemRead(a, 1)` of R16 and R110, then `k` with the byte. -/
def State.memRead (s : State) (a : Word) (k : Byte → State → State) : State :=
  if dataValid a then k (s.readAt a).1 (s.readAt a).2 else s.raise (.dataAddressOutOfRange a)

/-- `MemWrite(a, 1, v)` of R16 and R110, then `k`. -/
def State.memWrite (s : State) (a : Word) (v : Byte) (k : State → State) : State :=
  if dataValid a then k (s.writeAt a v) else s.raise (.dataAddressOutOfRange a)

/-- `IoWriteBit(A, b, v)` of R116 at data address `a = A + 0x20`: on TIFRx and PINx a 1 acts on bit `b` alone and a 0
does nothing; elsewhere it is a read-modify-write. -/
def State.ioWriteBit (s : State) (a : Word) (b : BitVec 3) (v : Bool) : State :=
  match ioRegAt a with
  | some .tifr0 => if v then s.writeIo .tifr0 (setBit 0 b.toNat true) else s
  | some .tifr1 => if v then s.writeIo .tifr1 (setBit 0 b.toNat true) else s
  | some (.pin p) => if v then s.writeIo (.pin p) (setBit 0 b.toNat true) else s
  | _ => (s.readAt a).2.writeAt a (setBit (s.readAt a).1 b.toNat v)

/-! ### Program memory (R103, R104 20_memory.md) -/

/-- The program byte stored at byte address `b`. -/
def State.flash (s : State) (b : Nat) : Byte := Memory.read s.prog b

/-- `ProgRead(w)` of R103: none where it raises FetchOutOfRange. -/
def State.progWord (s : State) (w : Word) : Option Word :=
  if w.toNat < Config.pmWords then some (s.flash (2 * w.toNat + 1) ++ s.flash (2 * w.toNat)) else none

/-- `ProgByte(b)` of R104, then `k` with the byte. -/
def State.progByte (s : State) (b : Word) (k : Byte → State → State) : State :=
  if b.toNat < Config.pmBytes then k (s.flash b.toNat) s else s.raise (.programReadOutOfRange b)

/-- Store one byte of program memory: the loader's, no instruction does it (R101, R106). -/
def State.setFlash (s : State) (b : Nat) (v : Byte) : State := { s with prog := Memory.write s.prog b v }

/-! ### The stack (R17 00_scope.md, R46 10_state.md, R266 41_branch.md) -/

/-- `Push8(v)`: store at SP, then decrement SP as the store left it (log entry 6). -/
def State.push8 (s : State) (v : Byte) (k : State → State) : State :=
  s.memWrite s.sp v fun t => k (t.setSp (t.sp - 1))

/-- `Pop8()`: read at SP + 1, then write SP. -/
def State.pop8 (s : State) (k : Byte → State → State) : State :=
  s.memRead (s.sp + 1) fun v t => k v (t.setSp (s.sp + 1))

/-- `PushReturn(ret)`: the low byte first, so the high byte lies at the lower address (R108, R266). -/
def State.pushReturn (s : State) (ret : Word) (k : State → State) : State :=
  s.push8 (lowByte ret) fun t => t.push8 (highByte ret) k

/-- `PopReturn()`. -/
def State.popReturn (s : State) (k : Word → State → State) : State :=
  s.pop8 fun hi t => t.pop8 fun lo u => k (hi ++ lo) u

/-! ### Skips (R262 41_branch.md) -/

/-- `SkipNext()`: pass over the next instruction, which is classified by its length and not decoded. -/
def State.skipNext (s : State) : State :=
  match s.progWord (s.pc + 1) with
  | none => s.raise (.fetchOutOfRange (s.pc + 1))
  | some w => s.goto (s.pc + 1 + BitVec.ofNat 16 (wordLength w)) (1 + wordLength w)

/-- The end of a skip instruction whose condition is `b`. -/
def State.skipIf (s : State) (b : Bool) : State := if b then s.skipNext else s.fall 1 1

/-! ### Interrupts (R420 to R426 60_exceptions.md) -/

/-- The in-block sources, in the order of their vector numbers (R420, R423). -/
inductive IrqSource where
  | timer1Capt
  | timer1CompA
  | timer1CompB
  | timer1Ovf
  | timer0CompA
  | timer0CompB
  | timer0Ovf
  deriving DecidableEq, Repr

/-- The vector number of a source (R420). -/
def IrqSource.vector : IrqSource → Nat
  | .timer1Capt => 11
  | .timer1CompA => 12
  | .timer1CompB => 13
  | .timer1Ovf => 14
  | .timer0CompA => 15
  | .timer0CompB => 16
  | .timer0Ovf => 17

/-- The word address of vector number `v` in 1..26 (R420). -/
def vectorAddress (v : Nat) : Word := BitVec.ofNat 16 (2 * (v - 1))

/-- R420's table: each vector number's source name, and the in-block source if there is one. Vector 1 is reset. -/
def vectorTable : List (Nat × String × Option IrqSource) :=
  [(1, "RESET", none), (2, "INT0", none), (3, "INT1", none), (4, "PCINT0", none), (5, "PCINT1", none),
   (6, "PCINT2", none), (7, "WDT", none), (8, "TIMER2_COMPA", none), (9, "TIMER2_COMPB", none),
   (10, "TIMER2_OVF", none), (11, "TIMER1_CAPT", some .timer1Capt), (12, "TIMER1_COMPA", some .timer1CompA),
   (13, "TIMER1_COMPB", some .timer1CompB), (14, "TIMER1_OVF", some .timer1Ovf),
   (15, "TIMER0_COMPA", some .timer0CompA), (16, "TIMER0_COMPB", some .timer0CompB),
   (17, "TIMER0_OVF", some .timer0Ovf), (18, "SPI_STC", none), (19, "USART_RX", none), (20, "USART_UDRE", none),
   (21, "USART_TX", none), (22, "ADC", none), (23, "EE_READY", none), (24, "ANALOG_COMP", none), (25, "TWI", none),
   (26, "SPM_READY", none)]

/-- The flag bit of a source in its TIFR, which is also its enable bit in its TIMSK (R67, R68, R73, R74, R420). -/
def IrqSource.bit : IrqSource → Nat
  | .timer1Capt => icfBit
  | .timer1CompA => ocfBit .a
  | .timer1CompB => ocfBit .b
  | .timer1Ovf => tovBit
  | .timer0CompA => ocfBit .a
  | .timer0CompB => ocfBit .b
  | .timer0Ovf => tovBit

/-- The timer a source belongs to. -/
def IrqSource.timer : IrqSource → TimerId
  | .timer1Capt | .timer1CompA | .timer1CompB | .timer1Ovf => .t1
  | .timer0CompA | .timer0CompB | .timer0Ovf => .t0

/-- TIFRn of a timer, as stored. -/
def State.tifrOf (s : State) : TimerId → Byte
  | .t0 => s.timer0.tifr
  | .t1 => s.timer1.tifr

/-- TIMSKn of a timer, as stored. -/
def State.timskOf (s : State) : TimerId → Byte
  | .t0 => s.timer0.timsk
  | .t1 => s.timer1.timsk

/-- `pending(v) = flag(v) & enable(v)` (R421). -/
def State.pending (s : State) (v : IrqSource) : Bool :=
  (s.tifrOf v.timer).getLsbD v.bit && (s.timskOf v.timer).getLsbD v.bit

/-- All in-block sources, lowest vector number first. -/
def irqSources : List IrqSource :=
  [.timer1Capt, .timer1CompA, .timer1CompB, .timer1Ovf, .timer0CompA, .timer0CompB, .timer0Ovf]

/-- The pending source with the lowest vector number (R423). -/
def State.firstPending (s : State) : Option IrqSource := irqSources.find? fun v => s.pending v

/-- `flag(v) <- 0`, the hardware clear of the source's flag (R424). -/
def State.clearIrqFlag (s : State) (v : IrqSource) : State :=
  match v.timer with
  | .t0 => { s with timer0 := { s.timer0 with tifr := setBit s.timer0.tifr v.bit false } }
  | .t1 => { s with timer1 := { s.timer1 with tifr := setBit s.timer1.tifr v.bit false } }

/-- SREG.I (R40 10_state.md). -/
def State.iFlag (s : State) : Bool := s.sreg.getLsbD 7

/-- TAKING AN INTERRUPT: `InterruptEntry(v)` of R424, at cost `cost`. A push that raises leaves I, the flag, pc and
`sleeping` as they were. -/
def State.interruptEntry (s : State) (v : IrqSource) (cost : Nat) : State :=
  s.pushReturn s.pc fun t =>
    (((t.setSreg (setBit t.sreg 7 false)).clearIrqFlag v).setSleeping false).goto (vectorAddress v.vector) cost

/-- RETURNING FROM AN INTERRUPT: what RETI does (R271 41_branch.md, R426). -/
def State.interruptReturn (s : State) (cost : Nat) : State :=
  s.popReturn fun ret t => ((t.setSreg (setBit t.sreg 7 true)).setIrqInhibit true).goto ret cost

end Sys2Proof.Machine
end

