-- ==== Sys2Proof/Machine/Operands.lean ====
section
/-! DEFINITION. Machine/Operands.lean: the operand forms and addressing modes (R33 10_state.md, R156 30_encoding.md, R261
41_branch.md, R300 and R331 42_data_transfer.md). -/

namespace Sys2Proof.Machine

/-- The pointer registers X, Y and Z (R33). -/
inductive Ptr where
  | x
  | y
  | z
  deriving DecidableEq, Repr

/-- The low register of a pointer: R26, R28, R30 (R33). -/
def Ptr.low : Ptr → BitVec 5
  | .x => 26
  | .y => 28
  | .z => 30

/-- The value of a pointer. -/
def State.ptr (s : State) (p : Ptr) : Word := s.pair p.low

/-- Write a pointer: both of its registers (R33). -/
def State.setPtr (s : State) (p : Ptr) (v : Word) : State := s.setPair p.low v

/-- Indirect with displacement: `P + zext_16(q)` (R309, R331). -/
def State.displaced (s : State) (p : Ptr) (q : BitVec 6) : Word := s.ptr p + q.setWidth 16

/-- Indirect with pre-decrement: `P - 1` (R306, R331). -/
def State.preDec (s : State) (p : Ptr) : Word := s.ptr p - 1

/-- The data address of I/O address `A` in 0..63 (R16 00_scope.md, R156). -/
def ioAddr (a : BitVec 6) : Word := a.setWidth 16 + 0x20

/-- The data address of I/O address `A` in 0..31 (R156). -/
def ioAddrLow (a : BitVec 5) : Word := a.setWidth 16 + 0x20

/-- `RelTarget(k)` of R261 for a displacement already sign-extended to 16 bits. -/
def State.relTarget (s : State) (k : Word) : Word := s.pc + 1 + k

/-- A 12-bit displacement, sign-extended (R156). -/
def disp12 (k : BitVec 12) : Word := k.signExtend 16

/-- A 7-bit displacement, sign-extended (R156). -/
def disp7 (k : BitVec 7) : Word := k.signExtend 16

/-- `k[15:0]` of the LONG format, the target of JMP and CALL (R265, R269). -/
def longTarget (k : BitVec 22) : Word := k.extractLsb' 0 16

/-- A load of one byte from data address `a` into Rd, with no pointer update, `words` words long (R300). -/
def State.loadByte (s : State) (d : BitVec 5) (a : Word) (words : Word) (cost : Nat) : State :=
  s.memRead a fun v t => (t.setReg d v).fall words cost

/-- A load of one byte from data address `a` into Rd; then pointer `p` is written with `p'` (R300: the access first, the
pointer after it). -/
def State.loadUpdate (s : State) (d : BitVec 5) (a : Word) (p : Ptr) (p' : Word) (cost : Nat) : State :=
  s.memRead a fun v t => ((t.setReg d v).setPtr p p').fall 1 cost

/-- A store of one byte to data address `a`, with no pointer update. -/
def State.storeByte (s : State) (a : Word) (v : Byte) (words : Word) (cost : Nat) : State :=
  s.memWrite a v fun t => t.fall words cost

/-- A store of one byte to data address `a`; then pointer `p` is written with `p'` (R300). -/
def State.storeUpdate (s : State) (a : Word) (v : Byte) (p : Ptr) (p' : Word) (cost : Nat) : State :=
  s.memWrite a v fun t => (t.setPtr p p').fall 1 cost

end Sys2Proof.Machine
end

