-- ==== Sys2Proof/Machine/Flags.lean ====
section
/-! DEFINITION. Machine/Flags.lean: every flag computation of the spec (R40, R41 10_state.md; R201 to R226
40_arith_logic.md; R353 to R359 43_bit.md). Each function takes the old SREG and answers the new one. -/

namespace Sys2Proof.Machine

/-! ### SREG's bits (R40) -/

/-- SREG from its eight bits, I first. -/
def packSreg (i t h s v n z c : Bool) : Byte :=
  BitVec.ofBool i ++ BitVec.ofBool t ++ BitVec.ofBool h ++ BitVec.ofBool s ++ BitVec.ofBool v ++ BitVec.ofBool n ++
    BitVec.ofBool z ++ BitVec.ofBool c

/-- The bit numbers of SREG. -/
abbrev bitC : Nat := 0
abbrev bitZ : Nat := 1
abbrev bitN : Nat := 2
abbrev bitV : Nat := 3
abbrev bitS : Nat := 4
abbrev bitH : Nat := 5
abbrev bitT : Nat := 6
abbrev bitI : Nat := 7

/-- `SREG[i]`. -/
def State.flag (s : State) (i : Nat) : Bool := s.sreg.getLsbD i

/-- SREG.C as the 8-bit number 0 or 1. -/
def State.carryIn (s : State) : Byte := (BitVec.ofBool (s.flag bitC)).setWidth 8

/-- H, V, N, Z, C replaced, S = N ^ V, and I and T kept: what additions and subtractions write. -/
def arithSreg (sr : Byte) (h v n z c : Bool) : Byte :=
  packSreg (sr.getLsbD bitI) (sr.getLsbD bitT) h (n ^^ v) v n z c

/-- V, N, Z, C replaced, S = N ^ V, and I, T, H kept: what ADIW, SBIW, COM and the shifts write. -/
def wordSreg (sr : Byte) (v n z c : Bool) : Byte :=
  packSreg (sr.getLsbD bitI) (sr.getLsbD bitT) (sr.getLsbD bitH) (n ^^ v) v n z c

/-- V, N, Z replaced, S = N ^ V, and I, T, H, C kept: what the logic instructions, INC and DEC write. -/
def logicSreg (sr : Byte) (v n z : Bool) : Byte := wordSreg sr v n z (sr.getLsbD bitC)

/-- Z and C replaced, the rest kept: what the multiplications write. -/
def mulSreg (sr : Byte) (z c : Bool) : Byte := setBit (setBit sr bitZ z) bitC c

/-! ### The flag helpers of R201 to R203 -/

/-- `AddFlags(a, b, R)` of R201. -/
def addFlags (a b r sr : Byte) : Byte :=
  arithSreg sr
    (a.getLsbD 3 && b.getLsbD 3 || b.getLsbD 3 && !r.getLsbD 3 || !r.getLsbD 3 && a.getLsbD 3)
    (a.getLsbD 7 && b.getLsbD 7 && !r.getLsbD 7 || !a.getLsbD 7 && !b.getLsbD 7 && r.getLsbD 7)
    (r.getLsbD 7)
    (r == 0)
    (a.getLsbD 7 && b.getLsbD 7 || b.getLsbD 7 && !r.getLsbD 7 || !r.getLsbD 7 && a.getLsbD 7)

/-- `SubFlags(a, b, R, keepZ)` of R202. -/
def subFlags (a b r : Byte) (keepZ : Bool) (sr : Byte) : Byte :=
  arithSreg sr
    (!a.getLsbD 3 && b.getLsbD 3 || b.getLsbD 3 && r.getLsbD 3 || r.getLsbD 3 && !a.getLsbD 3)
    (a.getLsbD 7 && !b.getLsbD 7 && !r.getLsbD 7 || !a.getLsbD 7 && b.getLsbD 7 && r.getLsbD 7)
    (r.getLsbD 7)
    (if keepZ then r == 0 && sr.getLsbD bitZ else r == 0)
    (!a.getLsbD 7 && b.getLsbD 7 || b.getLsbD 7 && r.getLsbD 7 || r.getLsbD 7 && !a.getLsbD 7)

/-- `LogicFlags(R)` of R203. -/
def logicFlags (r sr : Byte) : Byte := logicSreg sr false (r.getLsbD 7) (r == 0)

/-! ### The flags of single instructions -/

/-- ADIW: v is the pair before, r the result (R206). -/
def adiwFlags (v r : Word) (sr : Byte) : Byte :=
  wordSreg sr (!v.getLsbD 15 && r.getLsbD 15) (r.getLsbD 15) (r == 0) (!r.getLsbD 15 && v.getLsbD 15)

/-- SBIW (R211). -/
def sbiwFlags (v r : Word) (sr : Byte) : Byte :=
  wordSreg sr (v.getLsbD 15 && !r.getLsbD 15) (r.getLsbD 15) (r == 0) (r.getLsbD 15 && !v.getLsbD 15)

/-- COM (R217): V = 0 and C = 1. -/
def comFlags (r sr : Byte) : Byte := wordSreg sr false (r.getLsbD 7) (r == 0) true

/-- NEG: a is the operand, r the result (R218). -/
def negFlags (a r sr : Byte) : Byte :=
  arithSreg sr (r.getLsbD 3 || a.getLsbD 3) (r == 0x80) (r.getLsbD 7) (r == 0) (r != 0)

/-- INC (R219). -/
def incFlags (a r sr : Byte) : Byte := logicSreg sr (a == 0x7F) (r.getLsbD 7) (r == 0)

/-- DEC (R220). -/
def decFlags (a r sr : Byte) : Byte := logicSreg sr (a == 0x80) (r.getLsbD 7) (r == 0)

/-- The multiplications: p is the exact product, q what is written (R221 to R226). -/
def mulFlags (p q : Word) (sr : Byte) : Byte := mulSreg sr (q == 0) (p.getLsbD 15)

/-- LSR, ROR, ASR: C is the bit shifted out, N the result's bit 7, V = N ^ C (R353 to R355). -/
def shiftFlags (a r sr : Byte) : Byte :=
  wordSreg sr (r.getLsbD 7 ^^ a.getLsbD 0) (r.getLsbD 7) (r == 0) (a.getLsbD 0)

end Sys2Proof.Machine
end

