-- ==== Sys2Proof/Machine/ArithLogic.lean ====
section
/-! DEFINITION. Machine/ArithLogic.lean: the arithmetic and logic instructions (R204 to R226 40_arith_logic.md). -/

namespace Sys2Proof.Machine

/-- The end of a one-word ALU instruction: Rd, SREG, pc + 1 and the cost. -/
def State.aluResult (s : State) (d : BitVec 5) (r sr : Byte) : State := ((s.setReg d r).setSreg sr).fall 1 1

/-- The end of a word instruction on a pair (R206, R211). -/
def State.pairResult (s : State) (d : BitVec 5) (r : Word) (sr : Byte) : State := ((s.setPair d r).setSreg sr).fall 1 2

/-- The end of a multiplication: R1:R0 and the flags (R221 to R226). `p` is the product, `q` what is written. -/
def State.mulResult (s : State) (p q : Word) : State := ((s.setPair 0 q).setSreg (mulFlags p q s.sreg)).fall 1 2

/-- `(uint(a) * uint(b)) mod 2^16`, exact (R221). -/
def mulUU (a b : Byte) : Word := a.setWidth 16 * b.setWidth 16

/-- `(sint(a) * sint(b)) mod 2^16` (R222). -/
def mulSS (a b : Byte) : Word := a.signExtend 16 * b.signExtend 16

/-- `(sint(a) * uint(b)) mod 2^16` (R223). -/
def mulSU (a b : Byte) : Word := a.signExtend 16 * b.setWidth 16

/-- ADD (R204). -/
def execAdd (d r : BitVec 5) (s : State) : Out State :=
  let res := s.reg d + s.reg r
  .next (s.aluResult d res (addFlags (s.reg d) (s.reg r) res s.sreg))

/-- ADC (R205). -/
def execAdc (d r : BitVec 5) (s : State) : Out State :=
  let res := s.reg d + s.reg r + s.carryIn
  .next (s.aluResult d res (addFlags (s.reg d) (s.reg r) res s.sreg))

/-- ADIW (R206). -/
def execAdiw (d : BitVec 5) (k : BitVec 6) (s : State) : Out State :=
  let res := s.pair d + k.setWidth 16
  .next (s.pairResult d res (adiwFlags (s.pair d) res s.sreg))

/-- SUB (R207). -/
def execSub (d r : BitVec 5) (s : State) : Out State :=
  let res := s.reg d - s.reg r
  .next (s.aluResult d res (subFlags (s.reg d) (s.reg r) res false s.sreg))

/-- SUBI (R208). -/
def execSubi (d : BitVec 5) (k : BitVec 8) (s : State) : Out State :=
  let res := s.reg d - k
  .next (s.aluResult d res (subFlags (s.reg d) k res false s.sreg))

/-- SBC (R209). -/
def execSbc (d r : BitVec 5) (s : State) : Out State :=
  let res := s.reg d - s.reg r - s.carryIn
  .next (s.aluResult d res (subFlags (s.reg d) (s.reg r) res true s.sreg))

/-- SBCI (R210). -/
def execSbci (d : BitVec 5) (k : BitVec 8) (s : State) : Out State :=
  let res := s.reg d - k - s.carryIn
  .next (s.aluResult d res (subFlags (s.reg d) k res true s.sreg))

/-- SBIW (R211). -/
def execSbiw (d : BitVec 5) (k : BitVec 6) (s : State) : Out State :=
  let res := s.pair d - k.setWidth 16
  .next (s.pairResult d res (sbiwFlags (s.pair d) res s.sreg))

/-- AND (R212). -/
def execAnd (d r : BitVec 5) (s : State) : Out State :=
  let res := s.reg d &&& s.reg r
  .next (s.aluResult d res (logicFlags res s.sreg))

/-- ANDI (R213). -/
def execAndi (d : BitVec 5) (k : BitVec 8) (s : State) : Out State :=
  let res := s.reg d &&& k
  .next (s.aluResult d res (logicFlags res s.sreg))

/-- OR (R214). -/
def execOr (d r : BitVec 5) (s : State) : Out State :=
  let res := s.reg d ||| s.reg r
  .next (s.aluResult d res (logicFlags res s.sreg))

/-- ORI (R215). -/
def execOri (d : BitVec 5) (k : BitVec 8) (s : State) : Out State :=
  let res := s.reg d ||| k
  .next (s.aluResult d res (logicFlags res s.sreg))

/-- EOR (R216). -/
def execEor (d r : BitVec 5) (s : State) : Out State :=
  let res := s.reg d ^^^ s.reg r
  .next (s.aluResult d res (logicFlags res s.sreg))

/-- COM (R217). -/
def execCom (d : BitVec 5) (s : State) : Out State :=
  let res := 0xFF - s.reg d
  .next (s.aluResult d res (comFlags res s.sreg))

/-- NEG (R218). -/
def execNeg (d : BitVec 5) (s : State) : Out State :=
  let res := 0 - s.reg d
  .next (s.aluResult d res (negFlags (s.reg d) res s.sreg))

/-- INC (R219). -/
def execInc (d : BitVec 5) (s : State) : Out State :=
  let res := s.reg d + 1
  .next (s.aluResult d res (incFlags (s.reg d) res s.sreg))

/-- DEC (R220). -/
def execDec (d : BitVec 5) (s : State) : Out State :=
  let res := s.reg d - 1
  .next (s.aluResult d res (decFlags (s.reg d) res s.sreg))

/-- MUL (R221). -/
def execMul (d r : BitVec 5) (s : State) : Out State :=
  .next (s.mulResult (mulUU (s.reg d) (s.reg r)) (mulUU (s.reg d) (s.reg r)))

/-- MULS (R222). -/
def execMuls (d r : BitVec 5) (s : State) : Out State :=
  .next (s.mulResult (mulSS (s.reg d) (s.reg r)) (mulSS (s.reg d) (s.reg r)))

/-- MULSU (R223). -/
def execMulsu (d r : BitVec 5) (s : State) : Out State :=
  .next (s.mulResult (mulSU (s.reg d) (s.reg r)) (mulSU (s.reg d) (s.reg r)))

/-- FMUL (R224): C is bit 15 of the product before the shift. -/
def execFmul (d r : BitVec 5) (s : State) : Out State :=
  .next (s.mulResult (mulUU (s.reg d) (s.reg r)) (mulUU (s.reg d) (s.reg r) <<< 1))

/-- FMULS (R225). -/
def execFmuls (d r : BitVec 5) (s : State) : Out State :=
  .next (s.mulResult (mulSS (s.reg d) (s.reg r)) (mulSS (s.reg d) (s.reg r) <<< 1))

/-- FMULSU (R226). -/
def execFmulsu (d r : BitVec 5) (s : State) : Out State :=
  .next (s.mulResult (mulSU (s.reg d) (s.reg r)) (mulSU (s.reg d) (s.reg r) <<< 1))

end Sys2Proof.Machine
end

