-- ==== Sys2Proof/Machine/Bit.lean ====
section
/-! DEFINITION. Machine/Bit.lean: the bit and bit-test instructions, the shifts and the SREG bit operations (R351 to R360
43_bit.md). -/

namespace Sys2Proof.Machine

/-- The end of a shift of `a` to `r`: Rd and the shift flags (R353 to R355). -/
def State.shiftResult (s : State) (d : BitVec 5) (a r : Byte) : State :=
  ((s.setReg d r).setSreg (shiftFlags a r s.sreg)).fall 1 1

/-- SBI (R351). -/
def execSbi (a : BitVec 5) (b : BitVec 3) (s : State) : Out State :=
  .next ((s.ioWriteBit (ioAddrLow a) b true).fall 1 2)

/-- CBI (R352). -/
def execCbi (a : BitVec 5) (b : BitVec 3) (s : State) : Out State :=
  .next ((s.ioWriteBit (ioAddrLow a) b false).fall 1 2)

/-- LSR (R353). -/
def execLsr (d : BitVec 5) (s : State) : Out State := .next (s.shiftResult d (s.reg d) (s.reg d >>> 1))

/-- ROR (R354): `(C << 7) | (a >> 1)` with C as it was. -/
def execRor (d : BitVec 5) (s : State) : Out State :=
  .next (s.shiftResult d (s.reg d) (s.carryIn <<< 7 ||| s.reg d >>> 1))

/-- ASR (R355). -/
def execAsr (d : BitVec 5) (s : State) : Out State :=
  .next (s.shiftResult d (s.reg d) (s.reg d &&& 0x80 ||| s.reg d >>> 1))

/-- SWAP (R356). -/
def execSwap (d : BitVec 5) (s : State) : Out State :=
  .next ((s.setReg d ((s.reg d).extractLsb' 0 4 ++ (s.reg d).extractLsb' 4 4)).fall 1 1)

/-- BSET (R357): setting I also sets irqInhibit. -/
def execBset (b : BitVec 3) (s : State) : Out State :=
  .next (((s.setSreg (setBit s.sreg b.toNat true)).setIrqInhibit (s.irqInhibit || b == 7)).fall 1 1)

/-- BCLR (R358). -/
def execBclr (b : BitVec 3) (s : State) : Out State := .next ((s.setSreg (setBit s.sreg b.toNat false)).fall 1 1)

/-- BST (R359). -/
def execBst (d : BitVec 5) (b : BitVec 3) (s : State) : Out State :=
  .next ((s.setSreg (setBit s.sreg bitT ((s.reg d).getLsbD b.toNat))).fall 1 1)

/-- BLD (R360). -/
def execBld (d : BitVec 5) (b : BitVec 3) (s : State) : Out State :=
  .next ((s.setReg d (setBit (s.reg d) b.toNat (s.flag bitT))).fall 1 1)

end Sys2Proof.Machine
end

