-- ==== Sys2Proof/Machine/Branch.lean ====
section
/-! DEFINITION. Machine/Branch.lean: control transfer, compares and skips (R263 to R281 41_branch.md). -/

namespace Sys2Proof.Machine

/-- The end of a compare: SREG, pc + 1 and cost 1. -/
def State.compareResult (s : State) (sr : Byte) : State := (s.setSreg sr).fall 1 1

/-- The end of a conditional branch whose condition is `b` (R280, R281). -/
def State.branchIf (s : State) (b : Bool) (k : BitVec 7) : State :=
  if b then s.goto (s.relTarget (disp7 k)) 2 else s.fall 1 1

/-- RJMP (R263). -/
def execRjmp (k : BitVec 12) (s : State) : Out State := .next (s.goto (s.relTarget (disp12 k)) 2)

/-- IJMP (R264). -/
def execIjmp (s : State) : Out State := .next (s.goto (s.ptr .z) 2)

/-- JMP (R265). -/
def execJmp (k : BitVec 22) (s : State) : Out State := .next (s.goto (longTarget k) 3)

/-- RCALL (R267). -/
def execRcall (k : BitVec 12) (s : State) : Out State :=
  .next (s.pushReturn (s.pc + 1) fun t => t.goto (s.relTarget (disp12 k)) 3)

/-- ICALL (R268): Z is read before the pushes. -/
def execIcall (s : State) : Out State := .next (s.pushReturn (s.pc + 1) fun t => t.goto (s.ptr .z) 3)

/-- CALL (R269). -/
def execCall (k : BitVec 22) (s : State) : Out State :=
  .next (s.pushReturn (s.pc + 2) fun t => t.goto (longTarget k) 4)

/-- RET (R270). -/
def execRet (s : State) : Out State := .next (s.popReturn fun ret t => t.goto ret 4)

/-- RETI (R271). -/
def execReti (s : State) : Out State := .next (s.interruptReturn 4)

/-- CPSE (R272). -/
def execCpse (d r : BitVec 5) (s : State) : Out State := .next (s.skipIf (s.reg d == s.reg r))

/-- CP (R273). -/
def execCp (d r : BitVec 5) (s : State) : Out State :=
  .next (s.compareResult (subFlags (s.reg d) (s.reg r) (s.reg d - s.reg r) false s.sreg))

/-- CPC (R274). -/
def execCpc (d r : BitVec 5) (s : State) : Out State :=
  .next (s.compareResult (subFlags (s.reg d) (s.reg r) (s.reg d - s.reg r - s.carryIn) true s.sreg))

/-- CPI (R275). -/
def execCpi (d : BitVec 5) (k : BitVec 8) (s : State) : Out State :=
  .next (s.compareResult (subFlags (s.reg d) k (s.reg d - k) false s.sreg))

/-- SBRC (R276). -/
def execSbrc (r : BitVec 5) (b : BitVec 3) (s : State) : Out State := .next (s.skipIf (!(s.reg r).getLsbD b.toNat))

/-- SBRS (R277). -/
def execSbrs (r : BitVec 5) (b : BitVec 3) (s : State) : Out State := .next (s.skipIf ((s.reg r).getLsbD b.toNat))

/-- SBIC (R278). -/
def execSbic (a : BitVec 5) (b : BitVec 3) (s : State) : Out State :=
  .next (s.memRead (ioAddrLow a) fun v t => t.skipIf (!v.getLsbD b.toNat))

/-- SBIS (R279). -/
def execSbis (a : BitVec 5) (b : BitVec 3) (s : State) : Out State :=
  .next (s.memRead (ioAddrLow a) fun v t => t.skipIf (v.getLsbD b.toNat))

/-- BRBS (R280). -/
def execBrbs (b : BitVec 3) (k : BitVec 7) (s : State) : Out State := .next (s.branchIf (s.flag b.toNat) k)

/-- BRBC (R281). -/
def execBrbc (b : BitVec 3) (k : BitVec 7) (s : State) : Out State := .next (s.branchIf (!s.flag b.toNat) k)

end Sys2Proof.Machine
end

