-- ==== Sys2Proof/Machine/DataTransfer.lean ====
section
/-! DEFINITION. Machine/DataTransfer.lean: the data transfer instructions (R301 to R330 42_data_transfer.md). -/

namespace Sys2Proof.Machine

/-- MOV (R301). -/
def execMov (d r : BitVec 5) (s : State) : Out State := .next ((s.setReg d (s.reg r)).fall 1 1)

/-- MOVW (R302). -/
def execMovw (d r : BitVec 5) (s : State) : Out State := .next ((s.setPair d (s.pair r)).fall 1 1)

/-- LDI (R303). -/
def execLdi (d : BitVec 5) (k : BitVec 8) (s : State) : Out State := .next ((s.setReg d k).fall 1 1)

/-- LD Rd, X (R304). -/
def execLdX (d : BitVec 5) (s : State) : Out State := .next (s.loadByte d (s.ptr .x) 1 2)

/-- LD Rd, X+ (R305). -/
def execLdXInc (d : BitVec 5) (s : State) : Out State := .next (s.loadUpdate d (s.ptr .x) .x (s.ptr .x + 1) 2)

/-- LD Rd, -X (R306). -/
def execLdXDec (d : BitVec 5) (s : State) : Out State := .next (s.loadUpdate d (s.preDec .x) .x (s.preDec .x) 2)

/-- LD Rd, Y+ (R307). -/
def execLdYInc (d : BitVec 5) (s : State) : Out State := .next (s.loadUpdate d (s.ptr .y) .y (s.ptr .y + 1) 2)

/-- LD Rd, -Y (R308). -/
def execLdYDec (d : BitVec 5) (s : State) : Out State := .next (s.loadUpdate d (s.preDec .y) .y (s.preDec .y) 2)

/-- LDD Rd, Y+q (R309). -/
def execLddY (d : BitVec 5) (q : BitVec 6) (s : State) : Out State := .next (s.loadByte d (s.displaced .y q) 1 2)

/-- LD Rd, Z+ (R310). -/
def execLdZInc (d : BitVec 5) (s : State) : Out State := .next (s.loadUpdate d (s.ptr .z) .z (s.ptr .z + 1) 2)

/-- LD Rd, -Z (R311). -/
def execLdZDec (d : BitVec 5) (s : State) : Out State := .next (s.loadUpdate d (s.preDec .z) .z (s.preDec .z) 2)

/-- LDD Rd, Z+q (R312). -/
def execLddZ (d : BitVec 5) (q : BitVec 6) (s : State) : Out State := .next (s.loadByte d (s.displaced .z q) 1 2)

/-- LDS (R313). -/
def execLds (d : BitVec 5) (k : Word) (s : State) : Out State := .next (s.loadByte d k 2 2)

/-- ST X, Rr (R314). -/
def execStX (r : BitVec 5) (s : State) : Out State := .next (s.storeByte (s.ptr .x) (s.reg r) 1 2)

/-- ST X+, Rr (R315). -/
def execStXInc (r : BitVec 5) (s : State) : Out State := .next (s.storeUpdate (s.ptr .x) (s.reg r) .x (s.ptr .x + 1) 2)

/-- ST -X, Rr (R316). -/
def execStXDec (r : BitVec 5) (s : State) : Out State := .next (s.storeUpdate (s.preDec .x) (s.reg r) .x (s.preDec .x) 2)

/-- ST Y+, Rr (R317). -/
def execStYInc (r : BitVec 5) (s : State) : Out State := .next (s.storeUpdate (s.ptr .y) (s.reg r) .y (s.ptr .y + 1) 2)

/-- ST -Y, Rr (R318). -/
def execStYDec (r : BitVec 5) (s : State) : Out State := .next (s.storeUpdate (s.preDec .y) (s.reg r) .y (s.preDec .y) 2)

/-- STD Y+q, Rr (R319). -/
def execStdY (q : BitVec 6) (r : BitVec 5) (s : State) : Out State := .next (s.storeByte (s.displaced .y q) (s.reg r) 1 2)

/-- ST Z+, Rr (R320). -/
def execStZInc (r : BitVec 5) (s : State) : Out State := .next (s.storeUpdate (s.ptr .z) (s.reg r) .z (s.ptr .z + 1) 2)

/-- ST -Z, Rr (R321). -/
def execStZDec (r : BitVec 5) (s : State) : Out State := .next (s.storeUpdate (s.preDec .z) (s.reg r) .z (s.preDec .z) 2)

/-- STD Z+q, Rr (R322). -/
def execStdZ (q : BitVec 6) (r : BitVec 5) (s : State) : Out State := .next (s.storeByte (s.displaced .z q) (s.reg r) 1 2)

/-- STS (R323). -/
def execSts (k : Word) (r : BitVec 5) (s : State) : Out State := .next (s.storeByte k (s.reg r) 2 2)

/-- LPM, to R0 (R324). -/
def execLpmR0 (s : State) : Out State := .next (s.progByte (s.ptr .z) fun v t => (t.setReg 0 v).fall 1 3)

/-- LPM Rd, Z (R325). -/
def execLpmZ (d : BitVec 5) (s : State) : Out State :=
  .next (s.progByte (s.ptr .z) fun v t => (t.setReg d v).fall 1 3)

/-- LPM Rd, Z+ (R326). -/
def execLpmZInc (d : BitVec 5) (s : State) : Out State :=
  .next (s.progByte (s.ptr .z) fun v t => ((t.setReg d v).setPtr .z (s.ptr .z + 1)).fall 1 3)

/-- IN (R327). -/
def execIn (d : BitVec 5) (a : BitVec 6) (s : State) : Out State := .next (s.loadByte d (ioAddr a) 1 1)

/-- OUT (R328). -/
def execOut (a : BitVec 6) (r : BitVec 5) (s : State) : Out State := .next (s.storeByte (ioAddr a) (s.reg r) 1 1)

/-- PUSH (R329). -/
def execPush (r : BitVec 5) (s : State) : Out State := .next (s.push8 (s.reg r) fun t => t.fall 1 2)

/-- POP (R330). -/
def execPop (d : BitVec 5) (s : State) : Out State := .next (s.pop8 fun v t => (t.setReg d v).fall 1 2)

end Sys2Proof.Machine
end

