-- ==== Sys2Proof/Machine/McuControl.lean ====
section
/-! DEFINITION. Machine/McuControl.lean: NOP, SLEEP, WDR and BREAK (R380 to R383 44_mcu_control.md). -/

namespace Sys2Proof.Machine

/-- SMCR.SE (R62 10_state.md). -/
def State.sleepEnabled (s : State) : Bool := s.smcr.getLsbD 0

/-- NOP (R380). -/
def execNop (s : State) : Out State := .next (s.fall 1 1)

/-- SLEEP (R381): a one-cycle no-op unless SMCR.SE is 1. -/
def execSleep (s : State) : Out State := .next ((s.setSleeping (s.sleeping || s.sleepEnabled)).fall 1 1)

/-- WDR (R382): the watchdog is outside the block. -/
def execWdr (s : State) : Out State := .next (s.fall 1 1)

/-- BREAK (R383): it halts the block with stop reason Break, pc left at the BREAK and nothing charged (R400). -/
def execBreak (s : State) : Out State := .next (s.raise (.breakpoint s.pc))

end Sys2Proof.Machine
end

