-- ==== Sys2Proof/Machine/Peripherals.lean ====
section
/-! DEFINITION. Machine/Peripherals.lean: one CPU cycle of peripheral time and `Advance(k)` (R443, R451, R455, R462
60_exceptions.md; R503 70_reset_and_hazards.md). -/

namespace Sys2Proof.Machine

/-- `Tick(Timer0)` (R451): the reserved modes raise (R455). -/
def State.tick0 (s : State) : State :=
  if s.timer0.mode0.kind = .reserved then s.raise (.timerModeReserved .t0 s.timer0.wgm0.toNat)
  else { s with timer0 := s.timer0.tick s.timer0.mode0 0 }.tickPins .t0 s.timer0 s.timer0.mode0 0

/-- `Tick(Timer1)` (R451). -/
def State.tick1 (s : State) : State :=
  if s.timer1.mode1.kind = .reserved then s.raise (.timerModeReserved .t1 s.timer1.wgm1.toNat)
  else { s with timer1 := s.timer1.tick s.timer1.mode1 s.icr1 }.tickPins .t1 s.timer1 s.timer1.mode1 s.icr1

/-- `if TickDue(Timer0, l) then Tick(Timer0)` (R443). -/
def State.clock0 (s : State) (l : Level) : State :=
  if (s.timer0.tickDue l).2 then { s with timer0 := s.timer0.prescaled l }.tick0
  else { s with timer0 := s.timer0.prescaled l }

/-- `if TickDue(Timer1, l) then Tick(Timer1)` (R443). -/
def State.clock1 (s : State) (l : Level) : State :=
  if (s.timer1.tickDue l).2 then { s with timer1 := s.timer1.prescaled l }.tick1
  else { s with timer1 := s.timer1.prescaled l }

/-- The pin's level sampled this cycle, with the free value number `k` where it floats (R442, R462). -/
def State.sample (s : State) (pin : PortId × Fin 8) (k : Nat) : Level := (s.portOf pin.1).drawnLevel pin.2 k

/-- R462: the sample `l` differs from the recognised level. -/
def State.icpDiffers (s : State) (l : Level) : Bool := s.icpLevel.isSome && s.icpLevel != some l

/-- R462: an edge to level `l` is recognised this cycle. ICNC1 is bit 7 of TCCR1B: the fourth equal sample. -/
def State.icpEdge (s : State) (l : Level) : Bool :=
  s.icpDiffers l && (!s.timer1.tccrB.getLsbD 7 || decide (4 ≤ s.icpCount + 1))

/-- R462: the edge is the one ICES1 (bit 6 of TCCR1B) selects and ICR1's role is "capture". -/
def State.captures (s : State) (l : Level) : Bool :=
  s.icpEdge l && (s.timer1.tccrB.getLsbD 6 == (l == .high)) && s.timer1.mode1.icrCaptures

/-- `InputCaptureSample(l)` of R462. -/
def State.inputCapture (s : State) (l : Level) : State :=
  { s with
    icpLevel := if s.icpLevel.isNone || s.icpEdge l then some l else s.icpLevel
    icpCount := if s.icpDiffers l && !s.icpEdge l then s.icpCount + 1 else 0
    icr1 := if s.captures l then s.timer1.count else s.icr1
    timer1 := s.timer1.raiseFlag icfBit (s.captures l) }

/-- The state after the three samples of a cycle have been drawn. -/
def State.drawn (s : State) : State := { s with draws := s.draws + 3 }

/-- `AdvanceCycle()` of R443. All pins are sampled first; each sample has a draw of its own, used where the pin floats.
A raise by Timer0's tick ends the cycle (log entry 7). -/
def State.advanceCycle (s : State) : State :=
  let c := (s.drawn.inputCapture (s.sample capturePin (s.draws + 2))).clock0 (s.sample (clockPin .t0) s.draws)
  if c.halted.isSome then c else c.clock1 (s.sample (clockPin .t1) (s.draws + 1))

/-- `Advance(k)` of R503. -/
def State.advance (s : State) (k : Nat) : State :=
  match k with
  | 0 => s
  | k + 1 => if s.advanceCycle.halted.isSome then s.advanceCycle else s.advanceCycle.advance k

end Sys2Proof.Machine
end

