-- ==== Sys2Proof/Machine/Run.lean ====
section
/-! DEFINITION. Machine/Run.lean: the parts of one step (R502 70_reset_and_hazards.md): fetching and decoding an
instruction, running it, the sleep step and the interrupt-entry step. Step.lean puts them together. -/

namespace Sys2Proof.Machine

/-- What a fetch and decode of the instruction at pc gives (R152, R403 items 1 to 3). -/
inductive Fetched where
  | instr (i : Instr)
  | stop (f : Fault)
  deriving DecidableEq, Repr

/-- Decode the fetched words; a word that is no instruction stops with DecodeError(pc, w) (R401). -/
def State.decodeAt (s : State) (w w2 : Word) : Fetched :=
  match decode w w2 with
  | .ok i => .instr i
  | .error _ => .stop (.decodeError s.pc w)

/-- R152: the first word, then the second word of a two-word instruction, then decode. -/
def State.fetch (s : State) : Fetched :=
  match s.progWord s.pc with
  | none => .stop (.fetchOutOfRange s.pc)
  | some w =>
    if isTwoWord w then
      match s.progWord (s.pc + 1) with
      | none => .stop (.fetchOutOfRange (s.pc + 1))
      | some w2 => s.decodeAt w w2
    else s.decodeAt w 0

/-- `Advance(cost)` after the cost has been charged; `s` is the state before it. A fault adds no cycles and advances
nothing (R400, R502). -/
def State.settle (s t : State) : State := if t.halted.isSome then t else t.advance (t.cycles - s.cycles)

/-- An outcome of `exec` from `s` with the peripherals advanced by what it charged. -/
def State.settled (s : State) : Out State → Out State
  | .next t => .next (s.settle t)
  | .fault f => .fault f
  | .refused r => .refused r

/-- An instruction step: irqInhibit is cleared, then the instruction at pc runs (R425, R502). -/
def State.instructionStep (s : State) : Out State :=
  match (s.setIrqInhibit false).fetch with
  | .stop f => .next ((s.setIrqInhibit false).raise f)
  | .instr i => s.settled (exec i (s.setIrqInhibit false))

/-- SMCR.SM2:0 selects Idle (R470 60_exceptions.md). -/
def State.idle (s : State) : Bool := s.smcr.extractLsb' 1 3 == 0

/-- A sleep step: one cycle, and the peripherals run only in Idle (R471). -/
def State.sleepStep (s : State) : State :=
  if s.idle then s.settle (s.charge 1) else s.charge 1

/-- The source whose entry wakes a sleeping core at this step (R471). -/
def State.wakeSource (s : State) : Option IrqSource := if s.idle && s.iFlag then s.firstPending else none

/-- The source an awake core enters at this step (R422). -/
def State.dueSource (s : State) : Option IrqSource := if s.iFlag && !s.irqInhibit then s.firstPending else none

/-- `Step()` of R502. -/
def State.stepOnce (s : State) : Out State :=
  if s.halted.isSome then .next s
  else if s.sleeping then
    match s.wakeSource with
    | some v => .next (s.settle (s.interruptEntry v (Config.intEntryCycles + Config.wakeExtraCycles)))
    | none => .next s.sleepStep
  else
    match s.dueSource with
    | some v => .next (s.settle (s.interruptEntry v Config.intEntryCycles))
    | none => s.instructionStep

/-- Store the first two program words at pc: words `w1` and `w2`, low byte at the even byte address (R106). -/
def State.storeWords (s : State) (w1 w2 : Word) : State :=
  (((s.setFlash (2 * s.pc.toNat) (lowByte w1)).setFlash (2 * s.pc.toNat + 1) (highByte w1)).setFlash
    (2 * s.pc.toNat + 2) (lowByte w2)).setFlash (2 * s.pc.toNat + 3) (highByte w2)

/-- The state whose next step is an instruction step with both words of any instruction inside program memory: awake, not
halted, no interrupt due, and pc kept wherever two words stand at it (log entry 5). A reset state is left as it is. -/
def State.readyToFetch (s : State) : State :=
  { s with
    halted := none
    sleeping := false
    irqInhibit := s.irqInhibit || (s.iFlag && s.firstPending.isSome)
    pc := if s.pc.toNat + 1 < Config.pmWords then s.pc else 0 }

end Sys2Proof.Machine
end

