-- ==== Sys2Proof/Machine/Step.lean ====
section
/-! DEFINITION. Machine/Step.lean: the one transition of the block, and placing an instruction where it fetches. -/

namespace Sys2Proof.Machine

/-- One step of the block (R502 70_reset_and_hazards.md): a halted no-op, a sleep step, an interrupt-entry step or an
instruction step. -/
def step (s : State) : Host.Outcome State Fault Refusal := s.stepOnce

/-- `s` with the instruction whose bits are `w` (bit 0 the first word's least significant bit, every bit from `nbits` up
0) stored where `step` fetches next (log entry 5). -/
def State.withFetchWord (s : State) (nbits w : Nat) : State :=
  s.readyToFetch.storeWords (BitVec.ofNat 16 (w % 2 ^ nbits)) (BitVec.ofNat 16 (w % 2 ^ nbits / 2 ^ 16))

end Sys2Proof.Machine
end

