-- ==== Sys2Proof/Machine/Loader.lean ====
section
/-! DEFINITION. Machine/Loader.lean: the program image and construction (R105 to R107 20_memory.md; R404
60_exceptions.md; R511 70_reset_and_hazards.md). Text is a list of characters. -/

namespace Sys2Proof.Machine

/-- The runs of hex digits: the first and the last character of each, and the value of the first. Either case is read
(log entry 8). -/
def hexRuns : List (Char × Char × Nat) := [('0', '9', 0), ('A', 'F', 10), ('a', 'f', 10)]

/-- The value of one of the "two hex characters" of a byte (R105): its place in its run. -/
def hexDigit (c : Char) : Option Nat :=
  (hexRuns.find? fun run => decide (run.1 ≤ c) && decide (c ≤ run.2.1)).map fun run =>
    run.2.2 + (c.toNat - run.1.toNat)

/-- The number a run of hex digits writes, after `acc`; none at a character that is no hex digit. -/
def hexNumber (acc : Nat) (cs : List Char) : Option Nat :=
  match cs with
  | [] => some acc
  | c :: rest =>
    match hexDigit c with
    | none => none
    | some v => hexNumber (16 * acc + v) rest

/-- The field of `len` hex characters from character `off` of a line; none if the line is too short for it. -/
def hexField (line : List Char) (off len : Nat) : Option Nat :=
  if ((line.drop off).take len).length = len then hexNumber 0 ((line.drop off).take len) else none

/-- The line is a data record (R105): its first character is `:` and its characters 7..8 are `00`. -/
def isDataLine (line : List Char) : Bool := line.head? == some ':' && (line.drop 7).take 2 == ['0', '0']

/-- The `n` data bytes from character `off` on (R105); none if one is missing or is not hex. -/
def dataBytes (line : List Char) (off n : Nat) : Option (List Byte) :=
  match n with
  | 0 => some []
  | n + 1 =>
    match hexField line off 2, dataBytes line (off + 2) n with
    | some b, some rest => some (BitVec.ofNat 8 b :: rest)
    | _, _ => none

/-- The load address and bytes of a data record; none for any other line and for a data record that R107 skips whole
(the fields a record uses: log entry 8). -/
def dataRecord (line : List Char) : Option (Nat × List Byte) :=
  if isDataLine line then
    match hexField line 1 2, hexField line 3 4 with
    | some n, some a => (dataBytes line 9 n).map fun bytes => (a, bytes)
    | _, _ => none
  else none

/-- Store the bytes of a record from program byte address `a` on (R106); none at a byte address beyond program memory,
which makes the whole load fail (R107). -/
def storeRecord (m : Memory) (a : Nat) (bytes : List Byte) : Option Memory :=
  match bytes with
  | [] => some m
  | v :: rest => if a < Config.pmBytes then storeRecord (Memory.write m a v) (a + 1) rest else none

/-- Apply the lines in text order (R106). -/
def loadLines (m : Memory) (lines : List (List Char)) : Option Memory :=
  match lines with
  | [] => some m
  | line :: rest =>
    match dataRecord line with
    | none => loadLines m rest
    | some (a, bytes) =>
      match storeRecord m a bytes with
      | none => none
      | some m' => loadLines m' rest

/-- The lines of a text: what stands between line feeds. `cur` is the line being read. -/
def textLines (cur : List Char) (text : List Char) : List (List Char) :=
  match text with
  | [] => [cur]
  | c :: rest => if c = '\n' then cur :: textLines [] rest else textLines (cur ++ [c]) rest

/-- The program memory an image text gives (R102: zero where nothing is loaded); none is ConfigurationError. -/
def loadImage (text : List Char) : Option Memory := loadLines [] (textLines [] text)

/-- Words stored from word address `w` on, each low byte first (R106, R511). -/
def storeProgram (m : Memory) (w : Nat) (ws : List Word) : Memory :=
  match ws with
  | [] => m
  | v :: rest => storeProgram (Memory.write (Memory.write m (2 * w) (lowByte v)) (2 * w + 1) (highByte v)) (w + 1) rest

/-- The block right after construction with program memory `m` (R511: the load, then reset). -/
def State.loaded (m : Memory) : State := { State.reset with prog := m }

/-- `construct` from a word array (R511): refused if it is longer than program memory. -/
def constructWords (ws : List Word) : Out State :=
  if Config.pmWords < ws.length then .refused .configurationError else .next (State.loaded (storeProgram [] 0 ws))

/-- `construct` from an image text (R511). -/
def constructText (text : List Char) : Out State :=
  match loadImage text with
  | none => .refused .configurationError
  | some m => .next (State.loaded m)

end Sys2Proof.Machine
end

