-- ==== Sys2Proof/Machine/HostOps.lean ====
section
/-! DEFINITION. Machine/HostOps.lean: what the host may do between steps (R510 to R513 70_reset_and_hazards.md).
Inspection is the state itself. -/

namespace Sys2Proof.Machine

/-- The host's reset (R500): program memory is kept. The draw counter, the model's own, is kept too, so that no free
value is drawn twice (log entry 4). -/
def State.hostReset (s : State) : State := { State.reset with prog := s.prog, draws := s.draws }

/-- `inject`: `ext[P][n] <- l`, `none` for None (R485, R510). -/
def State.inject (s : State) (p : PortId) (n : Fin 8) (l : Option Level) : State :=
  s.setPort p { s.portOf p with ext := (s.portOf p).ext.set n l }

/-- `read pins`: the eight levels of a port, `none` for Floating; nothing is drawn (R510). -/
def State.readPins (s : State) (p : PortId) : List (Option Level) :=
  [0, 1, 2, 3, 4, 5, 6, 7].map fun n : Fin 8 => (s.portOf p).level n

/-- `read port byte`: PORTP, DDRP and the pin levels (R510). -/
def State.readPortByte (s : State) (p : PortId) : Byte × Byte × List (Option Level) :=
  ((s.portOf p).port, (s.portOf p).ddr, s.readPins p)

/-- `while halted == None and cycles - c0 < N: Step()` (R512), at most `fuel` steps. -/
def executeLoop (fuel c0 n : Nat) (s : State) : Out State :=
  match fuel with
  | 0 => .next s
  | fuel + 1 =>
    if s.halted.isNone && decide (s.cycles - c0 < n) then
      match step s with
      | .next t => executeLoop fuel c0 n t
      | .fault f => .fault f
      | .refused r => .refused r
    else .next s

/-- `execute(N)` (R512). Every step of a block that is not halted costs at least one cycle (R504), so `N` steps are
enough. -/
def execute (n : Nat) (s : State) : Out State := executeLoop n s.cycles n s

/-- The host actions that change the block (R510). -/
inductive HostAction where
  | reset
  | step
  | execute (n : Nat)
  | inject (p : PortId) (n : Fin 8) (l : Option Level)
  deriving DecidableEq, Repr

/-- One host action. -/
def hostAct (a : HostAction) (s : State) : Out State :=
  match a with
  | .reset => .next s.hostReset
  | .step => step s
  | .execute n => execute n s
  | .inject p n l => .next (s.inject p n l)

/-- A sequence of host actions: every interleaving of R513 is one such list. -/
def hostRun (acts : List HostAction) (s : State) : Out State :=
  match acts with
  | [] => .next s
  | a :: rest =>
    match hostAct a s with
    | .next t => hostRun rest t
    | .fault f => .fault f
    | .refused r => .refused r

end Sys2Proof.Machine
end

