-- ==== Sys2Proof/Safety.lean ====
section
/-! DEFINITION. Safety.lean: what counts as a fault-free run and as the end of one, and the well-formedness of a state. -/

namespace Sys2Proof.Machine

/-! ### The end of a run (R402 60_exceptions.md, R507 70_reset_and_hazards.md) -/

/-- The block has faulted (R402). -/
def State.faulted (s : State) : Bool := s.halted.isSome

/-- Idle loop (R507): awake, interrupts off, and `RJMP .` (0xCFFF) at pc. -/
def State.idleLoop (s : State) : Bool :=
  s.halted.isNone && !s.sleeping && !s.iFlag && s.progWord s.pc == some 0xCFFF

/-- Dead sleep (R507): no wake is possible. -/
def State.deadSleep (s : State) : Bool := s.halted.isNone && s.sleeping && (!s.iFlag || !s.idle)

/-- The end of a run, a fault included (R507). -/
def State.ended (s : State) : Bool := s.idleLoop || s.deadSleep || s.faulted

/-- `k` steps from `s` end in a state that is not faulted: since a halted block stays halted (R402), no step on the way
faulted. -/
def faultFree (k : Nat) (s : State) : Prop :=
  ∃ t, Sys2Proof.core.run k s = .next t ∧ t.faulted = false

/-- The launch premises of R506: everything at its reset value but program memory, the injected levels, and the
registers and SRAM bytes, which the spec leaves unspecified; the plain cells hold 0x00 (R112). A claim about a program
that takes `launch` as its premise holds whatever the registers and SRAM hold at reset (log entries 2 and 3). -/
def State.launch (s : State) : Prop :=
  s = { State.reset with
        prog := s.prog, regs := s.regs, mem := s.mem, draws := s.draws
        portB := { Port.reset with ext := s.portB.ext }
        portC := { Port.reset with ext := s.portC.ext }
        portD := { Port.reset with ext := s.portD.ext } } ∧
    ∀ a : Word, 0x20 ≤ a.toNat → a.toNat ≤ 0xFF → s.ram a = 0

/-! ### Well-formed states -/

/-- Every listed data address is a plain cell or SRAM (R110, R120 20_memory.md). -/
def State.cellsOnly (s : State) : Bool :=
  s.mem.all fun c => decide (0x20 ≤ c.1) && decide (c.1 ≤ Config.dataEnd) && (ioRegAt (BitVec.ofNat 16 c.1)).isNone

/-- Every listed program byte is inside program memory (R100, R104). -/
def State.flashOnly (s : State) : Bool := s.prog.all fun c => decide (c.1 < Config.pmBytes)

/-- Both memories are in canonical form and list only what exists. -/
def State.memoryOk (s : State) : Bool := Memory.wf s.mem && Memory.wf s.prog && s.cellsOnly && s.flashOnly

/-- A byte has no bit outside a mask. -/
def within (v mask : Byte) : Bool := v &&& mask == v

/-- No reserved bit of a block-owned register is set (R61 10_state.md). -/
def State.reservedClear (s : State) : Bool :=
  within s.smcr maskSmcr && within s.timer0.tccrA maskTccrA && within s.timer0.tccrB maskTccr0b &&
    within s.timer0.timsk maskFlags0 && within s.timer0.tifr maskFlags0 && within s.timer1.tccrA maskTccrA &&
    within s.timer1.tccrB maskTccr1b && within s.timer1.timsk maskFlags1 && within s.timer1.tifr maskFlags1

/-- psc_n is below the division factor while CS divides, and 0 while it does not (R81 10_state.md, R441). -/
def Timer.pscOk {n : Nat} (t : Timer n) : Bool := decide (t.psc < max 1 (divisor t.cs))

/-- The counts of the hidden state are in the ranges of R81. -/
def State.hiddenOk (s : State) : Bool := s.timer0.pscOk && s.timer1.pscOk && decide (s.icpCount ≤ 4)

end Sys2Proof.Machine
end

