-- ==== Sys2Proof/Certificates/Slice0/Obligations.lean ====
section
/-! DEFINITION. Certificates/Slice0/Obligations.lean: the statements for the provers. First the words they are written in
(namespace Sys2Proof.Claim), then one `Obligations.<Name> : Prop` each. -/

namespace Sys2Proof.Claim

open Sys2Proof.Machine

/-! ### Frames -/

/-- Everything but R0..R31, pc, SREG, the cycle counter and data memory is as before: the stack pointer, SMCR, the ports,
the timers, ICR1, TEMP1, the capture unit, irqInhibit, sleeping, the halt record, program memory and the draw counter. -/
def restKept (s t : State) : Prop :=
  t.sp = s.sp ∧ t.smcr = s.smcr ∧ t.portB = s.portB ∧ t.portC = s.portC ∧ t.portD = s.portD ∧ t.timer0 = s.timer0 ∧
    t.timer1 = s.timer1 ∧ t.icr1 = s.icr1 ∧ t.temp1 = s.temp1 ∧ t.icpLevel = s.icpLevel ∧ t.icpCount = s.icpCount ∧
    t.irqInhibit = s.irqInhibit ∧ t.sleeping = s.sleeping ∧ t.halted = s.halted ∧ t.prog = s.prog ∧ t.draws = s.draws

/-- Every general register but those listed is as before. -/
def regsKept (but : List (BitVec 5)) (s t : State) : Prop := ∀ q, q ∉ but → t.reg q = s.reg q

/-- Every SREG bit but those listed is as before. -/
def flagsKept (but : List Nat) (s t : State) : Prop := ∀ i, i < 8 → i ∉ but → t.flag i = s.flag i

/-- Every byte of SRAM and every plain cell reads as before. -/
def ramKept (s t : State) : Prop := ∀ a : Word, t.ram a = s.ram a

/-- pc moves past `words` words and `cost` cycles are charged (R18 00_scope.md). -/
def ends (words : Word) (cost : Nat) (s t : State) : Prop := t.pc = s.pc + words ∧ t.cycles = s.cycles + cost

/-- Nothing but pc and the cycle counter changes. -/
def allKept (s t : State) : Prop := regsKept [] s t ∧ t.sreg = s.sreg ∧ ramKept s t ∧ restKept s t

/-- The frame of a one-word, one-cycle instruction that writes Rd and the flags listed. -/
def aluFrame (d : BitVec 5) (flags : List Nat) (s t : State) : Prop :=
  regsKept [d] s t ∧ flagsKept flags s t ∧ ramKept s t ∧ restKept s t ∧ ends 1 1 s t

/-- The frame of a compare: no register is written. -/
def compareFrame (s t : State) : Prop :=
  regsKept [] s t ∧ flagsKept [bitH, bitS, bitV, bitN, bitZ, bitC] s t ∧ ramKept s t ∧ restKept s t ∧ ends 1 1 s t

/-! ### Flags in arithmetic form (the right-hand comments of R201 and R202 40_arith_logic.md) -/

/-- SREG.C as a number. -/
def carry (s : State) : Nat := (s.flag bitC).toNat

/-- `(a + b + cin) mod 256`. -/
def total (a b : Byte) (cin : Nat) : Byte := BitVec.ofNat 8 (a.toNat + b.toNat + cin)

/-- `(a - b - cin) mod 256`. -/
def difference (a b : Byte) (cin : Nat) : Byte := BitVec.ofInt 8 ((a.toNat : Int) - b.toNat - cin)

/-- The flags of an addition (R201). -/
def addFlagsOf (a b : Byte) (cin : Nat) (t : State) : Prop :=
  t.flag bitH = decide (15 < a.toNat % 16 + b.toNat % 16 + cin) ∧
  t.flag bitV = decide (a.toInt + b.toInt + cin < -128 ∨ 127 < a.toInt + b.toInt + cin) ∧
  t.flag bitN = decide (128 ≤ (total a b cin).toNat) ∧
  t.flag bitS = (t.flag bitN ^^ t.flag bitV) ∧
  t.flag bitZ = (total a b cin == 0) ∧
  t.flag bitC = decide (255 < a.toNat + b.toNat + cin)

/-- The flags of a subtraction whose Z flag is `z` (R202). -/
def subFlagsOf (a b : Byte) (cin : Nat) (z : Bool) (t : State) : Prop :=
  t.flag bitH = decide (a.toNat % 16 < b.toNat % 16 + cin) ∧
  t.flag bitV = decide (a.toInt - b.toInt - cin < -128 ∨ 127 < a.toInt - b.toInt - cin) ∧
  t.flag bitN = decide (128 ≤ (difference a b cin).toNat) ∧
  t.flag bitS = (t.flag bitN ^^ t.flag bitV) ∧
  t.flag bitZ = z ∧
  t.flag bitC = decide (a.toNat < b.toNat + cin)

/-- The flags of a logic instruction (R203). -/
def logicFlagsOf (r : Byte) (t : State) : Prop :=
  t.flag bitV = false ∧ t.flag bitN = r.getLsbD 7 ∧ t.flag bitS = r.getLsbD 7 ∧ t.flag bitZ = (r == 0)

/-- ADD or ADC at the operands `a` and `b`. -/
def adds (d : BitVec 5) (a b : Byte) (cin : Nat) (s t : State) : Prop :=
  t.reg d = total a b cin ∧ addFlagsOf a b cin t ∧ aluFrame d [bitH, bitS, bitV, bitN, bitZ, bitC] s t

/-- A subtraction into Rd whose Z flag is `z`. -/
def subtracts (d : BitVec 5) (a b : Byte) (cin : Nat) (z : Bool) (s t : State) : Prop :=
  t.reg d = difference a b cin ∧ subFlagsOf a b cin z t ∧ aluFrame d [bitH, bitS, bitV, bitN, bitZ, bitC] s t

/-- Z in keepZ form: cleared by a nonzero result, otherwise kept (R202). -/
def keptZ (a b : Byte) (s : State) : Bool := difference a b (carry s) == 0 && s.flag bitZ

/-- A logic instruction that writes `r` to Rd. -/
def logics (d : BitVec 5) (r : Byte) (s t : State) : Prop :=
  t.reg d = r ∧ logicFlagsOf r t ∧ aluFrame d [bitS, bitV, bitN, bitZ] s t

/-- The pair Rd+1:Rd. -/
def pairOf (s : State) (d : BitVec 5) : Nat := 256 * (s.reg (d + 1)).toNat + (s.reg d).toNat

/-- The frame of ADIW and SBIW. -/
def pairFrame (d : BitVec 5) (s t : State) : Prop :=
  regsKept [d, d + 1] s t ∧ flagsKept [bitS, bitV, bitN, bitZ, bitC] s t ∧ ramKept s t ∧ restKept s t ∧ ends 1 2 s t

/-- A multiplication whose product is `p` and which writes `q` to R1:R0 (R221 to R226 40_arith_logic.md). -/
def multiplies (p q : Word) (s t : State) : Prop :=
  t.reg 1 ++ t.reg 0 = q ∧ t.flag bitC = p.getLsbD 15 ∧ t.flag bitZ = (q == 0) ∧
    regsKept [0, 1] s t ∧ flagsKept [bitC, bitZ] s t ∧ ramKept s t ∧ restKept s t ∧ ends 1 2 s t

/-- A shift of `a` to the right that writes `r` to Rd (R353 to R355 43_bit.md). -/
def shifts (d : BitVec 5) (a r : Byte) (s t : State) : Prop :=
  t.reg d = r ∧ t.flag bitC = decide (a.toNat % 2 = 1) ∧ t.flag bitN = decide (128 ≤ r.toNat) ∧
    t.flag bitV = (t.flag bitN ^^ t.flag bitC) ∧ t.flag bitS = (t.flag bitN ^^ t.flag bitV) ∧
    t.flag bitZ = (r == 0) ∧ aluFrame d [bitS, bitV, bitN, bitZ, bitC] s t

/-! ### Control transfer -/

/-- A jump to `target` at cost `cost`: only pc and the cycle counter change. -/
def jumps (target : Word) (cost : Nat) (s t : State) : Prop := t.pc = target ∧ t.cycles = s.cycles + cost ∧ allKept s t

/-- `RelTarget(k)` of R261 (41_branch.md) for a displacement read as a signed integer. -/
def relTargetOf (s : State) (k : Int) : Word := BitVec.ofInt 16 ((s.pc.toNat : Int) + 1 + k)

/-- The two stack bytes of a call are plain data bytes (SRAM or plain cells), and data memory is in canonical form. -/
def pushable (s : State) : Prop :=
  dataValid s.sp = true ∧ dataValid (s.sp - 1) = true ∧ route s.sp = .cell ∧ route (s.sp - 1) = .cell ∧
    Memory.wf s.mem = true

/-- `PushReturn(ret)` (R266 41_branch.md): the low byte at SP, the high byte at SP - 1, and SP two lower. -/
def pushed (ret : Word) (s t : State) : Prop :=
  (t.ram s.sp).toNat = ret.toNat % 256 ∧ (t.ram (s.sp - 1)).toNat = ret.toNat / 256 ∧
    (∀ a : Word, a ≠ s.sp → a ≠ s.sp - 1 → t.ram a = s.ram a) ∧ t.sp = s.sp - 2

/-- A call to `target` that returns to `ret`. -/
def calls (ret target : Word) (cost : Nat) (s t : State) : Prop :=
  pushed ret s t ∧ t.pc = target ∧ t.cycles = s.cycles + cost ∧ regsKept [] s t ∧ t.sreg = s.sreg ∧
    restKept (s.setSp (s.sp - 2)) t

/-- The two stack bytes of a return are plain data bytes. -/
def poppable (s : State) : Prop :=
  dataValid (s.sp + 1) = true ∧ dataValid (s.sp + 2) = true ∧ route (s.sp + 1) = .cell ∧ route (s.sp + 2) = .cell

/-- `PopReturn()` (R266): the high byte at SP + 1, the low byte at SP + 2. -/
def popped (s t : State) : Prop :=
  t.pc.toNat = 256 * (s.ram (s.sp + 1)).toNat + (s.ram (s.sp + 2)).toNat ∧ t.sp = s.sp + 2 ∧
    t.cycles = s.cycles + 4 ∧ regsKept [] s t ∧ ramKept s t

/-- A call to `target` that returns to `ret`, with the two stack bytes in the general registers at data addresses 1..31. -/
def callsInRegisters (ret target : Word) (cost : Nat) (s t : State) : Prop :=
  let lo : BitVec 5 := BitVec.ofNat 5 s.sp.toNat
  (t.reg lo).toNat = ret.toNat % 256 ∧ (t.reg (lo - 1)).toNat = ret.toNat / 256 ∧ regsKept [lo, lo - 1] s t ∧
    t.pc = target ∧ t.cycles = s.cycles + cost ∧ t.sreg = s.sreg ∧ ramKept s t ∧ restKept (s.setSp (s.sp - 2)) t

/-- Every push at this stack address is one a call or an interrupt entry makes: it exists, so does the address below it, and
neither store of the first byte moves the stack pointer. -/
def pushesTwice (s : State) : Prop := 1 ≤ s.sp.toNat ∧ s.sp.toNat ≤ 0x08FF ∧ s.sp ≠ 0x5D ∧ s.sp ≠ 0x5E

/-- The two pushes of `ret`, whatever stands at their addresses: each byte is stored through the write of its address, and SP
goes down by one from what that store left (log entry 6 where it is SPL or SPH). -/
def afterPushes (ret : Word) (s : State) : State :=
  let u := ((s.writeAt s.sp (ret.setWidth 8)).setSp (s.sp - 1)).writeAt (s.sp - 1) (ret.extractLsb' 8 8)
  u.setSp (u.sp - 1)

/-- The two pops of a return, whatever stands at their addresses: the address, and the state after the two reads. -/
def afterPops (s : State) : Word × State :=
  let hi := s.readAt (s.sp + 1)
  let lo := (hi.2.setSp (s.sp + 1)).readAt (s.sp + 2)
  (hi.1 ++ lo.1, lo.2.setSp (s.sp + 2))

/-- The halt of a call or an interrupt entry at SP = 0: the low byte of `ret` went to R0, the second push has no address. -/
def secondPushFault (ret : Word) (s : State) : State :=
  ((s.setReg 0 (ret.setWidth 8)).setSp 0xFFFF).raise (.dataAddressOutOfRange 0xFFFF)

/-- A return whose two stack bytes are the general registers at data addresses SP + 1 and SP + 2. -/
def poppedFromRegisters (s t : State) : Prop :=
  let hi : BitVec 5 := BitVec.ofNat 5 (s.sp + 1).toNat
  t.pc.toNat = 256 * (s.reg hi).toNat + (s.reg (hi + 1)).toNat ∧ t.cycles = s.cycles + 4 ∧ regsKept [] s t ∧
    ramKept s t

/-- A skip instruction at `s` whose condition is `c`; `u` is the state after its operand has been read (R262). -/
def skips (c : Bool) (s u t : State) : Prop :=
  (c = false → ends 1 1 s t ∧ allKept u t) ∧
    (c = true →
      match s.progWord (s.pc + 1) with
      | none => t = u.raise (.fetchOutOfRange (s.pc + 1))
      | some w =>
        t.pc = s.pc + 1 + (if isTwoWord w then 2 else 1) ∧ t.cycles = s.cycles + (if isTwoWord w then 3 else 2) ∧
          allKept u t)

/-- A conditional branch whose condition is `c` (R280, R281). -/
def branches (c : Bool) (k : BitVec 7) (s t : State) : Prop :=
  if c then jumps (relTargetOf s k.toInt) 2 s t else jumps (s.pc + 1) 1 s t

/-! ### Data transfer -/

/-- A load of the byte at data address `a` into Rd with no pointer update; `s.readAt a` is the byte and the state after
its side effect (R110 20_memory.md). -/
def loads (d : BitVec 5) (a : Word) (words : Word) (cost : Nat) (s t : State) : Prop :=
  t.reg d = (s.readAt a).1 ∧ regsKept [d] s t ∧ t.sreg = s.sreg ∧ ramKept s t ∧ restKept (s.readAt a).2 t ∧
    ends words cost s t

/-- A load that also writes the pointer `p` with `p'`. -/
def loadsUpdating (d : BitVec 5) (a : Word) (p : Ptr) (p' : Word) (s t : State) : Prop :=
  t.reg d = (s.readAt a).1 ∧ t.ptr p = p' ∧ regsKept [d, p.low, p.low + 1] s t ∧ t.sreg = s.sreg ∧ ramKept s t ∧
    restKept (s.readAt a).2 t ∧ ends 1 2 s t

/-- A store of `v` to data address `a`, by what stands there (R110 20_memory.md); `upd` are the registers of a pointer
the instruction updates afterwards. Every byte of memory other than the one at `a` is unchanged. -/
def stores (a : Word) (v : Byte) (upd : List (BitVec 5)) (words : Word) (cost : Nat) (s t : State) : Prop :=
  (∀ b : Word, b ≠ a → t.ram b = s.ram b) ∧ ends words cost s t ∧
    match route a with
    | .cell => t.ram a = v ∧ regsKept upd s t ∧ t.sreg = s.sreg ∧ restKept s t
    | .register d => (d ∉ upd → t.reg d = v) ∧ regsKept (d :: upd) s t ∧ ramKept s t ∧ t.sreg = s.sreg ∧ restKept s t
    | .io r => regsKept upd s t ∧ ramKept s t ∧ t.sreg = (s.writeIo r v).sreg ∧ restKept (s.writeIo r v) t

/-- A store that may run: its address exists and data memory is in canonical form. -/
def storable (s : State) (a : Word) : Prop := dataValid a = true ∧ Memory.wf s.mem = true

/-- `IoWriteBit` at data address `a`, bit `b`, value `v`, by what stands at `a` (R116 20_memory.md). The addresses SBI and
CBI reach hold no other block-owned register. -/
def bitWritten (a : Word) (b : BitVec 3) (v : Bool) (s t : State) : Prop :=
  match ioRegAt a with
  | some .tifr0 =>
    allKept { s with timer0 := { s.timer0 with tifr := t.timer0.tifr } } t ∧
      ∀ j, j < 8 → t.timer0.tifr.getLsbD j =
        (s.timer0.tifr.getLsbD j && !(v && decide (j = b.toNat) && decide (j ∈ [0, 1, 2])))
  | some .tifr1 =>
    allKept { s with timer1 := { s.timer1 with tifr := t.timer1.tifr } } t ∧
      ∀ j, j < 8 → t.timer1.tifr.getLsbD j =
        (s.timer1.tifr.getLsbD j && !(v && decide (j = b.toNat) && decide (j ∈ [0, 1, 2, 5])))
  | some (.pin p) =>
    allKept (s.setPort p { s.portOf p with port := (t.portOf p).port }) t ∧
      ∀ j, j < 8 → (t.portOf p).port.getLsbD j = ((s.portOf p).port.getLsbD j ^^ (v && decide (j = b.toNat)))
  | some (.ddr p) =>
    allKept (s.setPort p { s.portOf p with ddr := (t.portOf p).ddr }) t ∧
      ∀ j, j < 8 → (t.portOf p).ddr.getLsbD j = if j = b.toNat then v else (s.portOf p).ddr.getLsbD j
  | some (.port p) =>
    allKept (s.setPort p { s.portOf p with port := (t.portOf p).port }) t ∧
      ∀ j, j < 8 → (t.portOf p).port.getLsbD j = if j = b.toNat then v else (s.portOf p).port.getLsbD j
  | some _ => False
  | none =>
    regsKept [] s t ∧ t.sreg = s.sreg ∧ restKept s t ∧ (∀ x : Word, x ≠ a → t.ram x = s.ram x) ∧
      ∀ j, j < 8 → (t.ram a).getLsbD j = if j = b.toNat then v else (s.ram a).getLsbD j

/-! ### Encodings -/

/-- Classes 1 to 8 of R171 (30_encoding.md): the first words that match no row of the opcode table. -/
def illegalWord (w : Word) : Bool :=
  (1 ≤ w.toNat && w.toNat ≤ 0xFF) ||
    (w.extractLsb' 9 7 == 0b1001000#7 && [0b0011#4, 0b0110#4, 0b0111#4, 0b1000#4, 0b1011#4].contains (w.extractLsb' 0 4)) ||
    (w.extractLsb' 9 7 == 0b1001001#7 &&
      [0b0011#4, 0b0100#4, 0b0101#4, 0b0110#4, 0b0111#4, 0b1000#4, 0b1011#4].contains (w.extractLsb' 0 4)) ||
    (w.extractLsb' 9 7 == 0b1001010#7 && w.extractLsb' 0 4 == 0b0100#4) ||
    (w.extractLsb' 9 7 == 0b1001010#7 && w.extractLsb' 0 4 == 0b1001#4 && !([0x9409#16, 0x9509#16].contains w)) ||
    (w.extractLsb' 9 7 == 0b1001010#7 && w.extractLsb' 0 4 == 0b1011#4) ||
    (w.extractLsb' 8 8 == 0b10010101#8 && w.extractLsb' 0 4 == 0b1000#4 &&
      !([0x9508#16, 0x9518#16, 0x9588#16, 0x9598#16, 0x95A8#16, 0x95C8#16].contains w)) ||
    (w.extractLsb' 11 5 == 0b11111#5 && w.getLsbD 3)

/-! ### Steps -/

/-- No interrupt is taken at this step by an awake core (R422 60_exceptions.md). -/
def noneDue (s : State) : Prop := s.flag bitI = false ∨ s.irqInhibit = true ∨ ∀ v, s.pending v = false

/-- `v` is the source to enter: it is pending, and no pending source has a lower vector number (R423). -/
def entersNext (s : State) (v : IrqSource) : Prop :=
  s.pending v = true ∧ ∀ u, s.pending u = true → v.vector ≤ u.vector

/-- The costs R520 (70_reset_and_hazards.md) lists for an instruction that completes; BREAK never does. -/
def documentedCosts : Instr → List Nat
  | .add _ _ | .adc _ _ | .sub _ _ | .subi _ _ | .sbc _ _ | .sbci _ _ | .and _ _ | .andi _ _ | .or _ _ | .ori _ _
  | .eor _ _ | .com _ | .neg _ | .inc _ | .dec _ | .cp _ _ | .cpc _ _ | .cpi _ _ | .mov _ _ | .movw _ _ | .ldi _ _
  | .inIo _ _ | .outIo _ _ | .lsr _ | .ror _ | .asr _ | .swap _ | .bset _ | .bclr _ | .bst _ _ | .bld _ _ | .nop
  | .sleep | .wdr => [1]
  | .adiw _ _ | .sbiw _ _ | .mul _ _ | .muls _ _ | .mulsu _ _ | .fmul _ _ | .fmuls _ _ | .fmulsu _ _ => [2]
  | .ldX _ | .ldXInc _ | .ldXDec _ | .ldYInc _ | .ldYDec _ | .lddY _ _ | .ldZInc _ | .ldZDec _ | .lddZ _ _ | .lds _ _
  | .stX _ | .stXInc _ | .stXDec _ | .stYInc _ | .stYDec _ | .stdY _ _ | .stZInc _ | .stZDec _ | .stdZ _ _ | .sts _ _
  | .push _ | .pop _ | .sbi _ _ | .cbi _ _ => [2]
  | .lpmR0 | .lpmZ _ | .lpmZInc _ => [3]
  | .rjmp _ | .ijmp => [2]
  | .jmp _ | .rcall _ | .icall => [3]
  | .call _ | .ret | .reti => [4]
  | .brbs _ _ | .brbc _ _ => [1, 2]
  | .cpse _ _ | .sbrc _ _ | .sbrs _ _ | .sbic _ _ | .sbis _ _ => [1, 2, 3]
  | .brk => []

/-! ### Timers -/

/-- Timer0 has just been started: its clock select divides, it counts from 0, and Timer1 does not raise (R457
60_exceptions.md). -/
def fresh0 (s : State) : Prop :=
  s.halted = none ∧ s.timer1.mode1.kind ≠ .reserved ∧ 1 ≤ s.timer0.cs.toNat ∧ s.timer0.cs.toNat ≤ 5 ∧
    s.timer0.count = 0 ∧ s.timer0.psc = 0 ∧ s.timer0.cmpBlock = false

/-- The same of Timer1. -/
def fresh1 (s : State) : Prop :=
  s.halted = none ∧ s.timer0.mode0.kind ≠ .reserved ∧ 1 ≤ s.timer1.cs.toNat ∧ s.timer1.cs.toNat ≤ 5 ∧
    s.timer1.count = 0 ∧ s.timer1.psc = 0 ∧ s.timer1.cmpBlock = false

/-- The division factor of a clock select (R441). -/
def factor (cs : BitVec 3) : Nat := [0, 1, 8, 64, 256, 1024, 0, 0].getD cs.toNat 0

/-- Every register and hidden state of a timer at its reset value (R60, R81 10_state.md). -/
def timerCleared {n : Nat} (t : Timer n) : Prop :=
  t.tccrA = 0 ∧ t.tccrB = 0 ∧ t.count = 0 ∧ t.ocrABuf = 0 ∧ t.ocrBBuf = 0 ∧ t.ocrAAct = 0 ∧ t.ocrBAct = 0 ∧
    t.timsk = 0 ∧ t.tifr = 0 ∧ t.psc = 0 ∧ t.dir = .up ∧ t.cmpBlock = false ∧ t.extClkPrev = none

/-- `TickDue` (R441, R442): whether this cycle ticks the timer, with the clock pin at level `l`, and its prescaler count. -/
def ticksWhenDue {n : Nat} (t : Timer n) (l : Level) : Prop :=
  (t.cs = 0 → t.tickDue l = (t.psc, false)) ∧
  (1 ≤ t.cs.toNat → t.cs.toNat ≤ 5 →
    t.tickDue l = if t.psc + 1 = factor t.cs then (0, true) else (t.psc + 1, false)) ∧
  (t.cs = 6 → t.tickDue l = (t.psc, decide (t.extClkPrev = some .high ∧ l = .low))) ∧
  (t.cs = 7 → t.tickDue l = (t.psc, decide (t.extClkPrev = some .low ∧ l = .high)))

/-- The value compared on channel A (R444): the active one in a PWM mode, the buffer otherwise. -/
def comparedA {n : Nat} (t : Timer n) (m : WaveMode n) : BitVec n := if m.isPwm then t.ocrAAct else t.ocrABuf

/-- The value compared on channel B (R444). -/
def comparedB {n : Nat} (t : Timer n) (m : WaveMode n) : BitVec n := if m.isPwm then t.ocrBAct else t.ocrBBuf

/-- In a dual-slope mode, the tick leaves TOP (R451). -/
def leavesTop {n : Nat} (t : Timer n) (top : BitVec n) : Bool := decide (t.dir = .up) && decide (t.count = top)

/-- In a dual-slope mode, the tick leaves BOTTOM upward (R451). -/
def leavesBottom {n : Nat} (t : Timer n) : Bool := decide (t.dir = .down) && decide (t.count = 0)

/-- What a tick from `t` to `u` with TOP = `top` does to the count, the direction, TOV and ICF, and whether the active
compare values take the buffers (R451 step 3, the "OCR update" and TOV columns of R450 and R460). `byIcr`: TOP is ICR1. -/
def counts {n : Nat} (t u : Timer n) (kind : WaveKind) (top : BitVec n) (byIcr : Bool) : Prop :=
  let event (count : Nat) (dir : Dir) (tov icf update : Bool) : Prop :=
    u.count.toNat = count % 2 ^ n ∧ u.dir = dir ∧ u.tifr.getLsbD 0 = (t.tifr.getLsbD 0 || tov) ∧
      u.tifr.getLsbD 5 = (t.tifr.getLsbD 5 || icf) ∧ u.ocrAAct = (if update then t.ocrABuf else t.ocrAAct) ∧
      u.ocrBAct = (if update then t.ocrBBuf else t.ocrBAct)
  let next : Nat := t.count.toNat + 1
  let atMax : Bool := decide (t.count.toNat = 2 ^ n - 1)
  let atTop : Bool := decide (t.count = top)
  match kind with
  | .normal => event next t.dir atMax false false
  | .ctc => event (if atTop then 0 else next) t.dir atMax (atTop && byIcr) false
  | .fast => event (if atTop then 0 else next) t.dir atTop (atTop && byIcr) atTop
  | .pc =>
    event (if leavesTop t top || leavesBottom t then (if top = 0 then 0 else if t.dir = .up then t.count.toNat - 1 else 1)
        else if t.dir = .up then next else t.count.toNat - 1)
      (if leavesTop t top then .down else if leavesBottom t then .up else t.dir)
      (leavesBottom t) (leavesTop t top && byIcr) (leavesTop t top)
  | .pfc =>
    event (if leavesTop t top || leavesBottom t then (if top = 0 then 0 else if t.dir = .up then t.count.toNat - 1 else 1)
        else if t.dir = .up then next else t.count.toNat - 1)
      (if leavesTop t top then .down else if leavesBottom t then .up else t.dir)
      (leavesBottom t) (leavesTop t top && byIcr) (leavesBottom t)
  | .reserved => True

/-- What a tick from `t` to `u` does to the compare flags, the block, and the registers it never writes (R451 step 2,
R452). -/
def compares {n : Nat} (t u : Timer n) (m : WaveMode n) : Prop :=
  u.tifr.getLsbD 1 = (t.tifr.getLsbD 1 || (!t.cmpBlock && decide (t.count = comparedA t m))) ∧
    u.tifr.getLsbD 2 = (t.tifr.getLsbD 2 || (!t.cmpBlock && decide (t.count = comparedB t m))) ∧
    u.cmpBlock = false ∧ (∀ j, j < 8 → j ∉ [0, 1, 2, 5] → u.tifr.getLsbD j = t.tifr.getLsbD j) ∧ u.tccrA = t.tccrA ∧
    u.tccrB = t.tccrB ∧ u.ocrABuf = t.ocrABuf ∧ u.ocrBBuf = t.ocrBBuf ∧ u.timsk = t.timsk ∧ u.psc = t.psc ∧
    u.extClkPrev = t.extClkPrev

/-- The PORT bit of a compare output after a tick of a timer with compare output mode `com` (R451 steps 2 and 3, R453):
`old` the bit before, `hit` a match, `up` moveUp, `wrap` the wrap of a fast mode, `tog` whether COM = 01 toggles. -/
def pinAfter (kind : WaveKind) (com : Nat) (tog hit up wrap old : Bool) : Bool :=
  match kind, com with
  | .reserved, _ => old
  | _, 0 => old
  | .normal, 1 => old ^^ hit
  | .ctc, 1 => old ^^ hit
  | _, 1 => old ^^ (hit && tog)
  | .normal, 2 => old && !hit
  | .ctc, 2 => old && !hit
  | .fast, 2 => (old && !hit) || wrap
  | _, 2 => if hit then !up else old
  | .normal, _ => old || hit
  | .ctc, _ => old || hit
  | .fast, _ => (old || hit) && !wrap
  | _, _ => if hit then up else old

/-- moveUp of R451 step 1. -/
def movingUp {n : Nat} (t : Timer n) (kind : WaveKind) (top : BitVec n) : Bool :=
  decide (kind ≠ .pc ∧ kind ≠ .pfc) || decide (t.dir = .up ∧ t.count ≠ top) || leavesBottom t

/-- The tick is the wrap of a fast mode (R451 step 3). -/
def wrapping {n : Nat} (t : Timer n) (kind : WaveKind) (top : BitVec n) : Bool :=
  decide (kind = .fast) && decide (t.count = top)

/-- The pin action of a force strobe (R456): the match action of the Normal and CTC kinds, otherwise none. -/
def forced (kind : WaveKind) (com : BitVec 2) (strobe : Bool) : PinAct :=
  match strobe, kind, com.toNat with
  | true, .normal, 1 => .toggle
  | true, .normal, 2 => .clear
  | true, .normal, 3 => .set
  | true, .ctc, 1 => .toggle
  | true, .ctc, 2 => .clear
  | true, .ctc, 3 => .set
  | _, _, _ => .keep

/-- The dual-slope count of an n-bit timer (R451): from BOTTOM, counting down, with TOP = T at least 1 and no pending change
of TOP, the count after j ticks is j up to T and 2T - j from there to 2T. -/
def dualSlopeCounts (n : Nat) : Prop :=
  ∀ (t : Timer n) (m : WaveMode n) (icr : BitVec n) (j : Nat),
    m.isDual = true → t.dir = .down → t.count = 0 → t.ocrABuf = t.ocrAAct →
    let T := (t.topVal m icr).toNat
    1 ≤ T → j ≤ 2 * T →
    ((fun u : Timer n => u.tick m icr)^[j] t).count.toNat = if j ≤ T then j else 2 * T - j

/-! ### Program images (R105 to R107 20_memory.md) -/

/-- `len` hex characters that write `v`, most significant first. -/
def hexText (len v : Nat) : List Char :=
  match len with
  | 0 => []
  | len + 1 => hexText len (v / 16) ++ ["0123456789ABCDEF".toList.getD (v % 16) '0']

/-- A data record's line: start mark, count, load address, type 00, data, and what follows them. -/
def recordLine (a : Nat) (bytes : List Byte) (tail : List Char) : List Char :=
  ':' :: (hexText 2 bytes.length ++ hexText 4 a ++ ['0', '0'] ++ (bytes.map fun b => hexText 2 b.toNat).flatten ++ tail)

/-- No hex character of either case. -/
def notHex (c : Char) : Prop := c ∉ "0123456789ABCDEFabcdef".toList

/-- A line the loader ignores or skips whole (R105, R107): no data record, a character that is not hex in the count, the
address or the data, or a count that needs more characters than the line has. -/
def skippedLine (line : List Char) : Prop :=
  line.head? ≠ some ':' ∨ (line.drop 7).take 2 ≠ ['0', '0'] ∨
    (∃ j c, 1 ≤ j ∧ j ≤ 6 ∧ (line.drop j).head? = some c ∧ notHex c) ∨
    ∃ v, v < 256 ∧ (line.drop 1).take 2 = hexText 2 v ∧
      (line.length < 9 + 2 * v ∨ ∃ j c, 9 ≤ j ∧ j < 9 + 2 * v ∧ (line.drop j).head? = some c ∧ notHex c)

end Sys2Proof.Claim

open Sys2Proof Sys2Proof.Machine Sys2Proof.Claim

/-! ## Encoding -/

/-- Decoding the bytes of a well-formed instruction gives it back, with the bytes that follow left over. -/
def Obligations.DecodeAfterEncode : Prop :=
  ∀ (i : Instr) (rest : List Byte), i.wellFormed = true → decodeBytes (encodeBytes i ++ rest) = .ok (i, rest)

/-- Encoding what a decode answers gives the words back: every bit of a decoded word is an operand bit or fixed. -/
def Obligations.EncodeAfterDecode : Prop :=
  ∀ (w w2 : Word) (i : Instr), decode w w2 = .ok i →
    i.wellFormed = true ∧ encode i = if isTwoWord w then [w, w2] else [w]

/-- Decoding is a lookup of the one row that matches, then its constraint (R163 30_encoding.md). -/
def Obligations.DecodeIsRowLookup : Prop :=
  (opcodeRows.Pairwise fun a b => ∀ w : Word, ¬ (w &&& a.mask = a.pattern ∧ w &&& b.mask = b.pattern)) ∧
  (∀ r ∈ opcodeRows, ∀ w w2 : Word, w &&& r.mask = r.pattern →
    decode w w2 = if (r.build w w2).wellFormed then .ok (r.build w w2) else .error (.operandConstraint w)) ∧
  (∀ w w2 : Word, (∀ r ∈ opcodeRows, w &&& r.mask ≠ r.pattern) → decode w w2 = .error (.noRow w))

/-- The words of R171 (30_encoding.md): exactly the first words of classes 1 to 8 match no row, and the words of classes 9
and 10 break their row's constraint. -/
def Obligations.IllegalWordsAreRejected : Prop :=
  (∀ w w2 : Word, decode w w2 = .error (.noRow w) ↔ illegalWord w = true) ∧
  (∀ w2 : Word, ∀ o ∈ [0b1001000#7, 0b1001001#7],
    (∀ d ∈ [26#5, 27#5], ∀ x ∈ [0b1101#4, 0b1110#4], decode (o ++ d ++ x) w2 = .error (.operandConstraint (o ++ d ++ x))) ∧
    (∀ d ∈ [28#5, 29#5], ∀ x ∈ [0b1001#4, 0b1010#4], decode (o ++ d ++ x) w2 = .error (.operandConstraint (o ++ d ++ x))) ∧
    (∀ d ∈ [30#5, 31#5], ∀ x ∈ [0b0001#4, 0b0010#4], decode (o ++ d ++ x) w2 = .error (.operandConstraint (o ++ d ++ x)))) ∧
  (∀ w2 : Word, ∀ d ∈ [30#5, 31#5],
    decode (0b1001000#7 ++ d ++ 0b0101#4) w2 = .error (.operandConstraint (0b1001000#7 ++ d ++ 0b0101#4))) ∧
  (∀ (w2 : Word) (hi : BitVec 6) (o : BitVec 1), hi ≠ 0 →
    decode (0b1001010#7 ++ hi.extractLsb' 1 5 ++ 0b11#2 ++ o ++ hi.extractLsb' 0 1) w2 =
      .error (.operandConstraint (0b1001010#7 ++ hi.extractLsb' 1 5 ++ 0b11#2 ++ o ++ hi.extractLsb' 0 1)))

/-- A few words of 95_test_vectors.md decode to the instructions the spec says they are. -/
def Obligations.KnownWordsDecode : Prop :=
  decode 0x0F01 0 = .ok (.add 16 17) ∧ decode 0x96CF 0 = .ok (.adiw 24 63) ∧ decode 0xC800 0 = .ok (.rjmp 0x800) ∧
  decode 0x940E 0x0200 = .ok (.call 0x200) ∧ decode 0xF7F1 0 = .ok (.brbc 1 0x7E) ∧ decode 0x01FC 0 = .ok (.movw 30 24) ∧
  decode 0x9100 0x006E = .ok (.lds 16 0x6E) ∧ decode 0xBD05 0 = .ok (.outIo 0x25 16) ∧
  decode 0x9A2D 0 = .ok (.sbi 0x05 5) ∧ decode 0xFB03 0 = .ok (.bst 16 3) ∧ decode 0x9588 0 = .ok .sleep

/-! ## The step -/

/-- An instruction step runs the instruction the words at pc decode to, with irqInhibit cleared first, and then advances
the peripherals by the cycles it charged, unless it faulted (R152 30_encoding.md, R425, R502). -/
def Obligations.StepRunsDecodedInstruction : Prop :=
  ∀ (s : State) (w w2 : Word) (i : Instr),
    s.halted = none → s.sleeping = false → noneDue s → s.progWord s.pc = some w →
    (isTwoWord w = true → s.progWord (s.pc + 1) = some w2) → decode w w2 = .ok i →
    ∃ t, exec i (s.setIrqInhibit false) = .next t ∧
      step s = .next (if t.halted.isSome then t else t.advance (t.cycles - s.cycles))

/-- Once halted, only a reset changes the halt record: a step and an execute change nothing, an injection keeps it, the
host's reset clears it (R402 60_exceptions.md). -/
def Obligations.HaltedUntilReset : Prop :=
  ∀ (s : State) (n : Nat) (p : PortId) (k : Fin 8) (l : Option Level), s.halted.isSome = true →
    step s = .next s ∧ execute n s = .next s ∧ (s.inject p k l).halted = s.halted ∧ s.hostReset.halted = none

/-- The fetch and decode faults, in the order of R403 (60_exceptions.md): each halts with pc, cycles and everything else
but irqInhibit as they were. That irqInhibit is clear in the halted block is the model's choice between R401 and R425 with
R502 (log entry 11); that a fault is a next state is log entry 1. -/
def Obligations.FetchAndDecodeFaultsHalt : Prop :=
  ∀ (s : State) (w w2 : Word), s.halted = none → s.sleeping = false → noneDue s →
    (Config.pmWords ≤ s.pc.toNat → step s = .next ((s.setIrqInhibit false).raise (.fetchOutOfRange s.pc))) ∧
    (s.progWord s.pc = some w → isTwoWord w = true → Config.pmWords ≤ s.pc.toNat + 1 →
      step s = .next ((s.setIrqInhibit false).raise (.fetchOutOfRange (s.pc + 1)))) ∧
    (s.progWord s.pc = some w → (isTwoWord w = true → s.progWord (s.pc + 1) = some w2) →
      (∀ i, decode w w2 ≠ .ok i) → step s = .next ((s.setIrqInhibit false).raise (.decodeError s.pc w)))

/-- Taking an interrupt: what R424 (60_exceptions.md) saves, clears and sets, with the stack in plain data bytes, and its
frame; the same with the stack in the general registers; and at every stack address, I/O registers among them, where both
pushes have an address and the first one does not move SP. -/
def Obligations.InterruptEntryEffect : Prop :=
  ∀ (s : State) (v : IrqSource) (cost : Nat),
    (pushable s →
      ∃ t, s.interruptEntry v cost = t ∧ pushed s.pc s t ∧ t.pc.toNat = 2 * (v.vector - 1) ∧ t.flag bitI = false ∧
        flagsKept [bitI] s t ∧ t.pending v = false ∧ (∀ u, u ≠ v → t.pending u = s.pending u) ∧
        t.sleeping = false ∧ t.cycles = s.cycles + cost ∧ regsKept [] s t ∧
        restKept { s with sp := s.sp - 2, sleeping := false, timer0 := { s.timer0 with tifr := t.timer0.tifr },
                          timer1 := { s.timer1 with tifr := t.timer1.tifr } } t ∧
        (∀ j, j < 8 → ¬ (v.timer = .t0 ∧ j = v.bit) → t.timer0.tifr.getLsbD j = s.timer0.tifr.getLsbD j) ∧
        (∀ j, j < 8 → ¬ (v.timer = .t1 ∧ j = v.bit) → t.timer1.tifr.getLsbD j = s.timer1.tifr.getLsbD j)) ∧
    (1 ≤ s.sp.toNat → s.sp.toNat ≤ 31 →
      let lo : BitVec 5 := BitVec.ofNat 5 s.sp.toNat
      ∃ t, s.interruptEntry v cost = t ∧ (t.reg lo).toNat = s.pc.toNat % 256 ∧
        (t.reg (lo - 1)).toNat = s.pc.toNat / 256 ∧ regsKept [lo, lo - 1] s t ∧ t.pc.toNat = 2 * (v.vector - 1) ∧
        t.flag bitI = false ∧ flagsKept [bitI] s t ∧ t.pending v = false ∧ (∀ u, u ≠ v → t.pending u = s.pending u) ∧
        t.cycles = s.cycles + cost ∧ ramKept s t ∧
        restKept { s with sp := s.sp - 2, sleeping := false, timer0 := { s.timer0 with tifr := t.timer0.tifr },
                          timer1 := { s.timer1 with tifr := t.timer1.tifr } } t) ∧
    (pushesTwice s →
      let w := afterPushes s.pc s
      ∃ t, s.interruptEntry v cost = t ∧ t.pc.toNat = 2 * (v.vector - 1) ∧ t.flag bitI = false ∧ flagsKept [bitI] w t ∧
        t.pending v = false ∧ (∀ u, u ≠ v → t.pending u = w.pending u) ∧ t.cycles = s.cycles + cost ∧
        t.halted = s.halted ∧ regsKept [] w t ∧ t.mem = w.mem ∧
        restKept { w with sleeping := false, timer0 := { w.timer0 with tifr := t.timer0.tifr },
                          timer1 := { w.timer1 with tifr := t.timer1.tifr } } t)

/-- When an interrupt is due, the step is the entry of the pending source with the lowest vector number, at cost 4 for an
awake core (R422, R423 60_exceptions.md) and at cost 8 for a core that wakes from Idle (R471); then the peripherals advance
by that cost. A first push beyond `DATA_END` halts with I, the flag, pc and sleeping as they were, and so does the second
push at SP = 0, where the first one stays (R424; a fault is a next state: log entry 1). -/
def Obligations.InterruptTakenAtStepStart : Prop :=
  ∀ (s : State) (v : IrqSource), s.halted = none → s.flag bitI = true → entersNext s v →
    (s.sleeping = false → s.irqInhibit = false → pushesTwice s →
      step s = .next ((s.interruptEntry v 4).advance 4)) ∧
    (s.sleeping = true → s.smcr.extractLsb' 1 3 = 0 → pushesTwice s →
      step s = .next ((s.interruptEntry v 8).advance 8)) ∧
    ((s.sleeping = false ∧ s.irqInhibit = false ∨ s.sleeping = true ∧ s.smcr.extractLsb' 1 3 = 0) →
      (dataValid s.sp = false → step s = .next (s.raise (.dataAddressOutOfRange s.sp))) ∧
      (s.sp = 0 → step s = .next (secondPushFault s.pc s)))

/-- A sleeping core that does not wake charges one cycle; the peripherals advance by it in Idle and stand still in every
other mode (R470, R471 60_exceptions.md). -/
def Obligations.SleepStepChargesOneCycle : Prop :=
  ∀ s : State, s.halted = none → s.sleeping = true →
    (s.smcr.extractLsb' 1 3 ≠ 0 → step s = .next { s with cycles := s.cycles + 1 }) ∧
    (s.smcr.extractLsb' 1 3 = 0 → (s.flag bitI = false ∨ ∀ v, s.pending v = false) →
      step s = .next ({ s with cycles := s.cycles + 1 }.advance 1))

/-- Among the instructions only SEI and a completed RETI set irqInhibit, and none clears it; only SLEEP with SMCR.SE = 1
enters sleep, and none leaves it; and none writes program memory, the capture unit's sampling state or an injected level
(R425 60_exceptions.md, R381 44_mcu_control.md, R101 20_memory.md). -/
def Obligations.HiddenStateWriters : Prop :=
  ∀ (i : Instr) (s t : State), exec i s = .next t →
    (s.halted = none → t.halted = none →
      t.irqInhibit = (s.irqInhibit || decide (i = .bset 7) || decide (i = .reti))) ∧
    t.sleeping = (s.sleeping || (decide (i = .sleep) && s.smcr.getLsbD 0)) ∧
    t.icpLevel = s.icpLevel ∧ t.icpCount = s.icpCount ∧ t.prog = s.prog ∧
    (∀ p, (t.portOf p).ext = (s.portOf p).ext)

/-- Every step answers a next state, a fault being a state of the block (the model's choice, log entry 1). An instruction
that completes charges a cost R520 lists for it, one that faults charges nothing; and no step lowers the cycle counter or
raises it by more than 8, a step that neither starts nor ends halted raises it (R400, R504, R505). -/
def Obligations.StepCostsAreDocumented : Prop :=
  (∀ (i : Instr) (s t : State), exec i s = .next t → s.halted = none →
    (t.halted = none → ∃ c ∈ documentedCosts i, t.cycles = s.cycles + c) ∧
    (t.halted.isSome = true → t.cycles = s.cycles)) ∧
  (∀ s : State, ∃ t, step s = .next t ∧ s.cycles ≤ t.cycles ∧ t.cycles ≤ s.cycles + 8 ∧
    (s.halted = none → t.halted = none → s.cycles < t.cycles))

/-- `execute(N)` always returns, takes no step for N = 0, consumes at least N cycles unless the block halts, and overshoots
by at most 7 (R512 70_reset_and_hazards.md). -/
def Obligations.ExecuteConsumesCycles : Prop :=
  ∀ (n : Nat) (s : State), ∃ t, execute n s = .next t ∧ (n = 0 → t = s) ∧
    (t.halted = none → s.cycles + n ≤ t.cycles) ∧ t.cycles ≤ s.cycles + n + 7

/-! ## Invariants -/

/-- Every step keeps both memories in canonical form (the model's representation, log entry 3) and listing only addresses
that exist (R100, R110 20_memory.md). -/
def Obligations.StepKeepsMemoryOk : Prop :=
  ∀ s t : State, s.memoryOk = true → step s = .next t → t.memoryOk = true

/-- Every step keeps the reserved bits of the block-owned registers 0 (R61 10_state.md). -/
def Obligations.StepKeepsReservedBitsClear : Prop :=
  ∀ s t : State, s.reservedClear = true → step s = .next t → t.reservedClear = true

/-- Every step keeps the hidden counts in the ranges of R81 (10_state.md): the prescaler counts below their division
factor and the noise-canceller count within 0..4. -/
def Obligations.StepKeepsHiddenRanges : Prop :=
  ∀ s t : State, s.hiddenOk = true → step s = .next t → t.hiddenOk = true

/-- The reset state meets the three invariants. -/
def Obligations.ResetMeetsInvariants : Prop :=
  State.reset.memoryOk = true ∧ State.reset.reservedClear = true ∧ State.reset.hiddenOk = true

/-- No step writes program memory or an injected level (R101 and R134 20_memory.md, R485 60_exceptions.md). -/
def Obligations.StepNeverWritesProgramOrInjection : Prop :=
  ∀ s t : State, step s = .next t →
    t.prog = s.prog ∧ t.portB.ext = s.portB.ext ∧ t.portC.ext = s.portC.ext ∧ t.portD.ext = s.portD.ext

/-- Peripheral time changes the timers, the capture unit with ICR1, the draw counter, the halt record and the PORT bits of
the four compare outputs where their pins are outputs, and nothing else (R443, R454, R482 60_exceptions.md). -/
def Obligations.PeripheralTimeFrame : Prop :=
  ∀ (s : State) (k : Nat),
    (s.advance k).regs = s.regs ∧ (s.advance k).pc = s.pc ∧ (s.advance k).sreg = s.sreg ∧ (s.advance k).sp = s.sp ∧
    (s.advance k).cycles = s.cycles ∧ (s.advance k).smcr = s.smcr ∧ (s.advance k).temp1 = s.temp1 ∧
    (s.advance k).mem = s.mem ∧ (s.advance k).prog = s.prog ∧ (s.advance k).irqInhibit = s.irqInhibit ∧
    (s.advance k).sleeping = s.sleeping ∧ (s.advance k).portC = s.portC ∧
    (s.advance k).portB.ext = s.portB.ext ∧ (s.advance k).portD.ext = s.portD.ext ∧
    (s.advance k).portB.ddr = s.portB.ddr ∧ (s.advance k).portD.ddr = s.portD.ddr ∧
    (∀ j, j < 8 → (j ∉ [1, 2] ∨ s.portB.ddr.getLsbD j = false) →
      (s.advance k).portB.port.getLsbD j = s.portB.port.getLsbD j) ∧
    (∀ j, j < 8 → (j ∉ [5, 6] ∨ s.portD.ddr.getLsbD j = false) →
      (s.advance k).portD.port.getLsbD j = s.portD.port.getLsbD j)

/-- The state after reset (R82 10_state.md, R500 70_reset_and_hazards.md): every value the spec gives, in the construction's
reset and in the host's, which keeps program memory; what each block-owned register but PINx reads (R60, and R45 for SP,
with its two addresses); and the start of the first step. -/
def Obligations.ResetState : Prop :=
  ∀ (s r : State) (v : Byte), r = State.reset ∨ r = s.hostReset →
    r.pc = 0 ∧ r.sreg = 0 ∧ r.sp = 0x08FF ∧ r.cycles = 0 ∧ r.smcr = 0 ∧ r.icr1 = 0 ∧ r.temp1 = 0 ∧
    r.icpLevel = none ∧ r.icpCount = 0 ∧ r.irqInhibit = false ∧ r.sleeping = false ∧ r.halted = none ∧
    (∀ p, (r.portOf p).ddr = 0 ∧ (r.portOf p).port = 0 ∧
      ∀ n : Fin 8, (r.portOf p).ext.get n = none ∧ (r.portOf p).level n = none) ∧
    (∀ a : Word, 0x20 ≤ a.toNat → a.toNat ≤ 0xFF → r.ram a = 0) ∧
    timerCleared r.timer0 ∧ timerCleared r.timer1 ∧
    (∀ a ∈ [0x24#16, 0x25#16, 0x27#16, 0x28#16, 0x2A#16, 0x2B#16, 0x35#16, 0x36#16, 0x44#16, 0x45#16, 0x46#16, 0x47#16,
        0x48#16, 0x53#16, 0x5F#16, 0x6E#16, 0x6F#16, 0x80#16, 0x81#16, 0x82#16, 0x84#16, 0x85#16, 0x86#16, 0x87#16, 0x88#16,
        0x89#16, 0x8A#16, 0x8B#16], (r.readAt a).1 = 0) ∧
    (r.readAt 0x5D).1 = 0xFF ∧ (r.readAt 0x5E).1 = 0x08 ∧
    (s.readAt 0x5D).1 = s.sp.extractLsb' 0 8 ∧ (s.readAt 0x5E).1 = s.sp.extractLsb' 8 8 ∧
    (s.writeAt 0x5D v).sp = s.sp.extractLsb' 8 8 ++ v ∧ (s.writeAt 0x5E v).sp = v ++ s.sp.extractLsb' 0 8 ∧
    r.dueSource = none ∧ step r = r.instructionStep ∧ s.hostReset.prog = s.prog ∧
    (∀ w : Word, w.toNat < 16384 → State.reset.progWord w = some 0)

/-! ## Arithmetic and logic -/

/-- The flag helpers' bit formulas are the arithmetic conditions beside them (R201, R202 40_arith_logic.md). -/
def Obligations.FlagFormulasAreArithmetic : Prop :=
  ∀ (a b sr : Byte) (cin keepZ : Bool),
    let r := total a b cin.toNat
    let f := addFlags a b r sr
    let q := difference a b cin.toNat
    let g := subFlags a b q keepZ sr
    f.getLsbD bitH = (a.getLsbD 3 && b.getLsbD 3 || b.getLsbD 3 && !r.getLsbD 3 || !r.getLsbD 3 && a.getLsbD 3) ∧
    f.getLsbD bitH = decide (15 < a.toNat % 16 + b.toNat % 16 + cin.toNat) ∧
    f.getLsbD bitV = (a.getLsbD 7 && b.getLsbD 7 && !r.getLsbD 7 || !a.getLsbD 7 && !b.getLsbD 7 && r.getLsbD 7) ∧
    f.getLsbD bitV = decide (a.toInt + b.toInt + cin.toNat < -128 ∨ 127 < a.toInt + b.toInt + cin.toNat) ∧
    f.getLsbD bitN = r.getLsbD 7 ∧ f.getLsbD bitS = (f.getLsbD bitN ^^ f.getLsbD bitV) ∧ f.getLsbD bitZ = (r == 0) ∧
    f.getLsbD bitC = (a.getLsbD 7 && b.getLsbD 7 || b.getLsbD 7 && !r.getLsbD 7 || !r.getLsbD 7 && a.getLsbD 7) ∧
    f.getLsbD bitC = decide (255 < a.toNat + b.toNat + cin.toNat) ∧
    f.getLsbD bitT = sr.getLsbD bitT ∧ f.getLsbD bitI = sr.getLsbD bitI ∧
    g.getLsbD bitH = (!a.getLsbD 3 && b.getLsbD 3 || b.getLsbD 3 && q.getLsbD 3 || q.getLsbD 3 && !a.getLsbD 3) ∧
    g.getLsbD bitH = decide (a.toNat % 16 < b.toNat % 16 + cin.toNat) ∧
    g.getLsbD bitV = (a.getLsbD 7 && !b.getLsbD 7 && !q.getLsbD 7 || !a.getLsbD 7 && b.getLsbD 7 && q.getLsbD 7) ∧
    g.getLsbD bitV = decide (a.toInt - b.toInt - cin.toNat < -128 ∨ 127 < a.toInt - b.toInt - cin.toNat) ∧
    g.getLsbD bitN = q.getLsbD 7 ∧ g.getLsbD bitS = (g.getLsbD bitN ^^ g.getLsbD bitV) ∧
    g.getLsbD bitZ = (if keepZ then q == 0 && sr.getLsbD bitZ else q == 0) ∧
    g.getLsbD bitC = (!a.getLsbD 7 && b.getLsbD 7 || b.getLsbD 7 && q.getLsbD 7 || q.getLsbD 7 && !a.getLsbD 7) ∧
    g.getLsbD bitC = decide (a.toNat < b.toNat + cin.toNat) ∧
    g.getLsbD bitT = sr.getLsbD bitT ∧ g.getLsbD bitI = sr.getLsbD bitI

/-- ADD, ADC, SUB, SUBI, SBC and SBCI (R204, R205, R207 to R210 40_arith_logic.md). -/
def Obligations.AdditionsAndSubtractions : Prop :=
  ∀ (s : State) (d r : BitVec 5) (k : BitVec 8),
    (encode (.add d r) = [0b000011#6 ++ r.extractLsb' 4 1 ++ d ++ r.extractLsb' 0 4] ∧
      ∃ t, exec (.add d r) s = .next t ∧ adds d (s.reg d) (s.reg r) 0 s t) ∧
    (encode (.adc d r) = [0b000111#6 ++ r.extractLsb' 4 1 ++ d ++ r.extractLsb' 0 4] ∧
      ∃ t, exec (.adc d r) s = .next t ∧ adds d (s.reg d) (s.reg r) (carry s) s t) ∧
    (encode (.sub d r) = [0b000110#6 ++ r.extractLsb' 4 1 ++ d ++ r.extractLsb' 0 4] ∧
      ∃ t, exec (.sub d r) s = .next t ∧
        subtracts d (s.reg d) (s.reg r) 0 (difference (s.reg d) (s.reg r) 0 == 0) s t) ∧
    (encode (.sbc d r) = [0b000010#6 ++ r.extractLsb' 4 1 ++ d ++ r.extractLsb' 0 4] ∧
      ∃ t, exec (.sbc d r) s = .next t ∧
        subtracts d (s.reg d) (s.reg r) (carry s) (keptZ (s.reg d) (s.reg r) s) s t) ∧
    (16 ≤ d.toNat →
      (encode (.subi d k) = [0b0101#4 ++ k.extractLsb' 4 4 ++ d.extractLsb' 0 4 ++ k.extractLsb' 0 4] ∧
        ∃ t, exec (.subi d k) s = .next t ∧ subtracts d (s.reg d) k 0 (difference (s.reg d) k 0 == 0) s t) ∧
      (encode (.sbci d k) = [0b0100#4 ++ k.extractLsb' 4 4 ++ d.extractLsb' 0 4 ++ k.extractLsb' 0 4] ∧
        ∃ t, exec (.sbci d k) s = .next t ∧ subtracts d (s.reg d) k (carry s) (keptZ (s.reg d) k s) s t))

/-- CP, CPC and CPI write the flags of the subtraction and no register (R273 to R275 41_branch.md). -/
def Obligations.Compares : Prop :=
  ∀ (s : State) (d r : BitVec 5) (k : BitVec 8),
    (encode (.cp d r) = [0b000101#6 ++ r.extractLsb' 4 1 ++ d ++ r.extractLsb' 0 4] ∧
      ∃ t, exec (.cp d r) s = .next t ∧
        subFlagsOf (s.reg d) (s.reg r) 0 (difference (s.reg d) (s.reg r) 0 == 0) t ∧ compareFrame s t) ∧
    (encode (.cpc d r) = [0b000001#6 ++ r.extractLsb' 4 1 ++ d ++ r.extractLsb' 0 4] ∧
      ∃ t, exec (.cpc d r) s = .next t ∧
        subFlagsOf (s.reg d) (s.reg r) (carry s) (keptZ (s.reg d) (s.reg r) s) t ∧ compareFrame s t) ∧
    (16 ≤ d.toNat →
      encode (.cpi d k) = [0b0011#4 ++ k.extractLsb' 4 4 ++ d.extractLsb' 0 4 ++ k.extractLsb' 0 4] ∧
      ∃ t, exec (.cpi d k) s = .next t ∧
        subFlagsOf (s.reg d) k 0 (difference (s.reg d) k 0 == 0) t ∧ compareFrame s t)

/-- ADIW and SBIW (R206, R211): the pair modulo 2^16, and the flags in the rules' form and as carries. -/
def Obligations.WordImmediates : Prop :=
  ∀ (s : State) (d : BitVec 5) (k : BitVec 6), d ∈ [24#5, 26#5, 28#5, 30#5] →
    (encode (.adiw d k) = [0b10010110#8 ++ k.extractLsb' 4 2 ++ d.extractLsb' 1 2 ++ k.extractLsb' 0 4] ∧
      ∃ t, exec (.adiw d k) s = .next t ∧ pairOf t d = (pairOf s d + k.toNat) % 65536 ∧
        t.flag bitV = decide (pairOf s d < 32768 ∧ 32768 ≤ pairOf t d) ∧ t.flag bitN = decide (32768 ≤ pairOf t d) ∧
        t.flag bitS = (t.flag bitN ^^ t.flag bitV) ∧ t.flag bitZ = decide (pairOf t d = 0) ∧
        t.flag bitC = decide (pairOf t d < 32768 ∧ 32768 ≤ pairOf s d) ∧
        t.flag bitC = decide (65535 < pairOf s d + k.toNat) ∧ pairFrame d s t) ∧
    (encode (.sbiw d k) = [0b10010111#8 ++ k.extractLsb' 4 2 ++ d.extractLsb' 1 2 ++ k.extractLsb' 0 4] ∧
      ∃ t, exec (.sbiw d k) s = .next t ∧ pairOf t d = (pairOf s d + 65536 - k.toNat) % 65536 ∧
        t.flag bitV = decide (32768 ≤ pairOf s d ∧ pairOf t d < 32768) ∧ t.flag bitN = decide (32768 ≤ pairOf t d) ∧
        t.flag bitS = (t.flag bitN ^^ t.flag bitV) ∧ t.flag bitZ = decide (pairOf t d = 0) ∧
        t.flag bitC = decide (32768 ≤ pairOf t d ∧ pairOf s d < 32768) ∧
        t.flag bitC = decide (pairOf s d < k.toNat) ∧ pairFrame d s t)

/-- AND, ANDI, OR, ORI and EOR (R212 to R216). -/
def Obligations.LogicInstructions : Prop :=
  ∀ (s : State) (d r : BitVec 5) (k : BitVec 8),
    (encode (.and d r) = [0b001000#6 ++ r.extractLsb' 4 1 ++ d ++ r.extractLsb' 0 4] ∧
      ∃ t, exec (.and d r) s = .next t ∧ logics d (s.reg d &&& s.reg r) s t) ∧
    (encode (.or d r) = [0b001010#6 ++ r.extractLsb' 4 1 ++ d ++ r.extractLsb' 0 4] ∧
      ∃ t, exec (.or d r) s = .next t ∧ logics d (s.reg d ||| s.reg r) s t) ∧
    (encode (.eor d r) = [0b001001#6 ++ r.extractLsb' 4 1 ++ d ++ r.extractLsb' 0 4] ∧
      ∃ t, exec (.eor d r) s = .next t ∧ logics d (s.reg d ^^^ s.reg r) s t) ∧
    (16 ≤ d.toNat →
      (encode (.andi d k) = [0b0111#4 ++ k.extractLsb' 4 4 ++ d.extractLsb' 0 4 ++ k.extractLsb' 0 4] ∧
        ∃ t, exec (.andi d k) s = .next t ∧ logics d (s.reg d &&& k) s t) ∧
      (encode (.ori d k) = [0b0110#4 ++ k.extractLsb' 4 4 ++ d.extractLsb' 0 4 ++ k.extractLsb' 0 4] ∧
        ∃ t, exec (.ori d k) s = .next t ∧ logics d (s.reg d ||| k) s t))

/-- COM, NEG, INC and DEC (R217 to R220). -/
def Obligations.OneOperandArithmetic : Prop :=
  ∀ (s : State) (d : BitVec 5),
    (encode (.com d) = [0b1001010#7 ++ d ++ 0b0000#4] ∧
      ∃ t, exec (.com d) s = .next t ∧ (t.reg d).toNat = 255 - (s.reg d).toNat ∧ logicFlagsOf (t.reg d) t ∧
        t.flag bitC = true ∧ aluFrame d [bitS, bitV, bitN, bitZ, bitC] s t) ∧
    (encode (.neg d) = [0b1001010#7 ++ d ++ 0b0001#4] ∧
      ∃ t, exec (.neg d) s = .next t ∧
        subtracts d 0 (s.reg d) 0 (difference 0 (s.reg d) 0 == 0) s t ∧
        t.flag bitV = (t.reg d == 0x80) ∧ t.flag bitC = (t.reg d != 0) ∧
        t.flag bitH = ((t.reg d).getLsbD 3 || (s.reg d).getLsbD 3)) ∧
    (encode (.inc d) = [0b1001010#7 ++ d ++ 0b0011#4] ∧
      ∃ t, exec (.inc d) s = .next t ∧ (t.reg d).toNat = ((s.reg d).toNat + 1) % 256 ∧
        t.flag bitV = decide ((s.reg d).toNat = 127) ∧ t.flag bitN = decide (128 ≤ (t.reg d).toNat) ∧
        t.flag bitS = (t.flag bitN ^^ t.flag bitV) ∧ t.flag bitZ = decide ((t.reg d).toNat = 0) ∧
        aluFrame d [bitS, bitV, bitN, bitZ] s t) ∧
    (encode (.dec d) = [0b1001010#7 ++ d ++ 0b1010#4] ∧
      ∃ t, exec (.dec d) s = .next t ∧ (t.reg d).toNat = ((s.reg d).toNat + 255) % 256 ∧
        t.flag bitV = decide ((s.reg d).toNat = 128) ∧ t.flag bitN = decide (128 ≤ (t.reg d).toNat) ∧
        t.flag bitS = (t.flag bitN ^^ t.flag bitV) ∧ t.flag bitZ = decide ((t.reg d).toNat = 0) ∧
        aluFrame d [bitS, bitV, bitN, bitZ] s t)

/-- The six multiplications (R221 to R226): the product is exact, C is its bit 15 before any shift, Z is taken from what is
written to R1:R0. -/
def Obligations.Multiplications : Prop :=
  ∀ (s : State) (d r : BitVec 5),
    let u := BitVec.ofNat 16 ((s.reg d).toNat * (s.reg r).toNat)
    let g := BitVec.ofInt 16 ((s.reg d).toInt * (s.reg r).toInt)
    let m := BitVec.ofInt 16 ((s.reg d).toInt * ((s.reg r).toNat : Int))
    (encode (.mul d r) = [0b100111#6 ++ r.extractLsb' 4 1 ++ d ++ r.extractLsb' 0 4] ∧
      ∃ t, exec (.mul d r) s = .next t ∧ multiplies u u s t) ∧
    (16 ≤ d.toNat → 16 ≤ r.toNat →
      encode (.muls d r) = [0b00000010#8 ++ d.extractLsb' 0 4 ++ r.extractLsb' 0 4] ∧
      ∃ t, exec (.muls d r) s = .next t ∧ multiplies g g s t) ∧
    (16 ≤ d.toNat → d.toNat ≤ 23 → 16 ≤ r.toNat → r.toNat ≤ 23 →
      (encode (.mulsu d r) = [0b000000110#9 ++ d.extractLsb' 0 3 ++ 0b0#1 ++ r.extractLsb' 0 3] ∧
        ∃ t, exec (.mulsu d r) s = .next t ∧ multiplies m m s t) ∧
      (encode (.fmul d r) = [0b000000110#9 ++ d.extractLsb' 0 3 ++ 0b1#1 ++ r.extractLsb' 0 3] ∧
        ∃ t, exec (.fmul d r) s = .next t ∧ multiplies u (u <<< 1) s t) ∧
      (encode (.fmuls d r) = [0b000000111#9 ++ d.extractLsb' 0 3 ++ 0b0#1 ++ r.extractLsb' 0 3] ∧
        ∃ t, exec (.fmuls d r) s = .next t ∧ multiplies g (g <<< 1) s t) ∧
      (encode (.fmulsu d r) = [0b000000111#9 ++ d.extractLsb' 0 3 ++ 0b1#1 ++ r.extractLsb' 0 3] ∧
        ∃ t, exec (.fmulsu d r) s = .next t ∧ multiplies m (m <<< 1) s t))

/-! ## Shifts and bits -/

/-- LSR, ROR, ASR and SWAP (R353 to R356 43_bit.md). -/
def Obligations.ShiftsAndSwap : Prop :=
  ∀ (s : State) (d : BitVec 5),
    (encode (.lsr d) = [0b1001010#7 ++ d ++ 0b0110#4] ∧
      ∃ t, exec (.lsr d) s = .next t ∧ shifts d (s.reg d) (BitVec.ofNat 8 ((s.reg d).toNat / 2)) s t) ∧
    (encode (.ror d) = [0b1001010#7 ++ d ++ 0b0111#4] ∧
      ∃ t, exec (.ror d) s = .next t ∧
        shifts d (s.reg d) (BitVec.ofNat 8 (128 * carry s + (s.reg d).toNat / 2)) s t) ∧
    (encode (.asr d) = [0b1001010#7 ++ d ++ 0b0101#4] ∧
      ∃ t, exec (.asr d) s = .next t ∧ shifts d (s.reg d) (BitVec.ofInt 8 ((s.reg d).toInt / 2)) s t) ∧
    (encode (.swap d) = [0b1001010#7 ++ d ++ 0b0010#4] ∧
      ∃ t, exec (.swap d) s = .next t ∧
        (t.reg d).toNat = 16 * ((s.reg d).toNat % 16) + (s.reg d).toNat / 16 ∧ aluFrame d [] s t)

/-- BSET, BCLR, BST and BLD (R357 to R360 43_bit.md). -/
def Obligations.FlagAndBitTransfers : Prop :=
  ∀ (s : State) (b : BitVec 3) (d : BitVec 5),
    (encode (.bset b) = [0b100101000#9 ++ b ++ 0b1000#4] ∧
      ∃ t, exec (.bset b) s = .next t ∧ t.flag b.toNat = true ∧ flagsKept [b.toNat] s t ∧ regsKept [] s t ∧
        ramKept s t ∧ restKept (s.setIrqInhibit (s.irqInhibit || decide (b.toNat = 7))) t ∧ ends 1 1 s t) ∧
    (encode (.bclr b) = [0b100101001#9 ++ b ++ 0b1000#4] ∧
      ∃ t, exec (.bclr b) s = .next t ∧ t.flag b.toNat = false ∧ flagsKept [b.toNat] s t ∧ regsKept [] s t ∧
        ramKept s t ∧ restKept s t ∧ ends 1 1 s t) ∧
    (encode (.bst d b) = [0b1111101#7 ++ d ++ 0b0#1 ++ b] ∧
      ∃ t, exec (.bst d b) s = .next t ∧ t.flag bitT = (s.reg d).getLsbD b.toNat ∧ flagsKept [bitT] s t ∧
        regsKept [] s t ∧ ramKept s t ∧ restKept s t ∧ ends 1 1 s t) ∧
    (encode (.bld d b) = [0b1111100#7 ++ d ++ 0b0#1 ++ b] ∧
      ∃ t, exec (.bld d b) s = .next t ∧
        (∀ j, j < 8 → (t.reg d).getLsbD j = if j = b.toNat then s.flag bitT else (s.reg d).getLsbD j) ∧
        aluFrame d [] s t)

/-- SBI and CBI (R351, R352 43_bit.md): `IoWriteBit` at data address A + 0x20, by what stands there (R116 20_memory.md). -/
def Obligations.IoBitWrites : Prop :=
  ∀ (s : State) (a : BitVec 5) (b : BitVec 3), Memory.wf s.mem = true →
    (encode (.sbi a b) = [0b10011010#8 ++ a ++ b] ∧
      ∃ t, exec (.sbi a b) s = .next t ∧ ends 1 2 s t ∧ bitWritten (BitVec.ofNat 16 (a.toNat + 0x20)) b true s t) ∧
    (encode (.cbi a b) = [0b10011000#8 ++ a ++ b] ∧
      ∃ t, exec (.cbi a b) s = .next t ∧ ends 1 2 s t ∧ bitWritten (BitVec.ofNat 16 (a.toNat + 0x20)) b false s t)

/-! ## Control transfer -/

/-- RJMP, IJMP, JMP, BRBS and BRBC (R261, R263 to R265, R280 and R281 41_branch.md); the branches read the flag as stored
(R42 10_state.md). -/
def Obligations.JumpsAndBranches : Prop :=
  ∀ (s : State) (k : BitVec 12) (l : BitVec 22) (b : BitVec 3) (m : BitVec 7),
    (encode (.rjmp k) = [0b1100#4 ++ k] ∧ ∃ t, exec (.rjmp k) s = .next t ∧ jumps (relTargetOf s k.toInt) 2 s t) ∧
    (encode .ijmp = [0x9409] ∧ ∃ t, exec .ijmp s = .next t ∧ jumps (s.reg 31 ++ s.reg 30) 2 s t) ∧
    (l.toNat < 0x10000 →
      encode (.jmp l) = [0b1001010#7 ++ l.extractLsb' 17 5 ++ 0b11#2 ++ 0b0#1 ++ l.extractLsb' 16 1, l.extractLsb' 0 16] ∧
      ∃ t, exec (.jmp l) s = .next t ∧ jumps (BitVec.ofNat 16 l.toNat) 3 s t) ∧
    (encode (.brbs b m) = [0b111100#6 ++ m ++ b] ∧
      ∃ t, exec (.brbs b m) s = .next t ∧ branches (s.sreg.getLsbD b.toNat) m s t) ∧
    (encode (.brbc b m) = [0b111101#6 ++ m ++ b] ∧
      ∃ t, exec (.brbc b m) s = .next t ∧ branches (!s.sreg.getLsbD b.toNat) m s t)

/-- RCALL, ICALL and CALL with the stack in plain data bytes (R266 to R269 41_branch.md). -/
def Obligations.Calls : Prop :=
  ∀ (s : State) (k : BitVec 12) (l : BitVec 22), pushable s →
    (encode (.rcall k) = [0b1101#4 ++ k] ∧
      ∃ t, exec (.rcall k) s = .next t ∧ calls (s.pc + 1) (relTargetOf s k.toInt) 3 s t) ∧
    (encode .icall = [0x9509] ∧ ∃ t, exec .icall s = .next t ∧ calls (s.pc + 1) (s.reg 31 ++ s.reg 30) 3 s t) ∧
    (l.toNat < 0x10000 →
      encode (.call l) = [0b1001010#7 ++ l.extractLsb' 17 5 ++ 0b11#2 ++ 0b1#1 ++ l.extractLsb' 16 1, l.extractLsb' 0 16] ∧
      ∃ t, exec (.call l) s = .next t ∧ calls (s.pc + 2) (BitVec.ofNat 16 l.toNat) 4 s t)

/-- RET and RETI with the stack in plain data bytes (R266, R270, R271 41_branch.md; R426 60_exceptions.md). -/
def Obligations.Returns : Prop :=
  ∀ s : State, poppable s →
    (encode .ret = [0x9508] ∧
      ∃ t, exec .ret s = .next t ∧ popped s t ∧ t.sreg = s.sreg ∧ restKept (s.setSp (s.sp + 2)) t) ∧
    (encode .reti = [0x9518] ∧
      ∃ t, exec .reti s = .next t ∧ popped s t ∧ t.flag bitI = true ∧ flagsKept [bitI] s t ∧
        restKept ((s.setSp (s.sp + 2)).setIrqInhibit true) t)

/-- Calls and returns with the stack outside plain data bytes (R31 10_state.md, R266 to R271 41_branch.md). In the general
registers they save and read the return address there, and ICALL reads Z before the pushes. At every other address that
exists they complete too, through the writes and reads of what stands there; left out is a call whose first byte lands in SPL
or SPH, which changes where the second one goes (log entry 6). -/
def Obligations.StackOutsidePlainBytes : Prop :=
  ∀ (s : State) (k : BitVec 12) (l : BitVec 22),
    (1 ≤ s.sp.toNat → s.sp.toNat ≤ 31 →
      (∃ t, exec (.rcall k) s = .next t ∧ callsInRegisters (s.pc + 1) (relTargetOf s k.toInt) 3 s t) ∧
      (∃ t, exec .icall s = .next t ∧ callsInRegisters (s.pc + 1) (s.reg 31 ++ s.reg 30) 3 s t) ∧
      (l.toNat < 0x10000 →
        ∃ t, exec (.call l) s = .next t ∧ callsInRegisters (s.pc + 2) (BitVec.ofNat 16 l.toNat) 4 s t)) ∧
    ((s.sp + 1).toNat ≤ 30 →
      (∃ t, exec .ret s = .next t ∧ poppedFromRegisters s t ∧ t.sreg = s.sreg ∧ restKept (s.setSp (s.sp + 2)) t) ∧
      (∃ t, exec .reti s = .next t ∧ poppedFromRegisters s t ∧ t.flag bitI = true ∧ flagsKept [bitI] s t ∧
        restKept ((s.setSp (s.sp + 2)).setIrqInhibit true) t)) ∧
    (pushesTwice s →
      (exec (.rcall k) s = .next { afterPushes (s.pc + 1) s with pc := relTargetOf s k.toInt, cycles := s.cycles + 3 }) ∧
      (exec .icall s = .next { afterPushes (s.pc + 1) s with pc := s.reg 31 ++ s.reg 30, cycles := s.cycles + 3 }) ∧
      (l.toNat < 0x10000 → exec (.call l) s =
        .next { afterPushes (s.pc + 2) s with pc := BitVec.ofNat 16 l.toNat, cycles := s.cycles + 4 }) ∧
      ∀ ret, (afterPushes ret s).halted = s.halted) ∧
    ((s.sp + 1).toNat ≤ 0x08FE →
      exec .ret s = .next { (afterPops s).2 with pc := (afterPops s).1, cycles := s.cycles + 4 } ∧
      (∃ t, exec .reti s = .next t ∧ t.flag bitI = true ∧ flagsKept [bitI] s t ∧
        { t with sreg := s.sreg } =
          { (afterPops s).2 with pc := (afterPops s).1, cycles := s.cycles + 4, irqInhibit := true }) ∧
      (afterPops s).2 = { s with sp := s.sp + 2, draws := (afterPops s).2.draws, temp1 := (afterPops s).2.temp1 })

/-- CPSE, SBRC, SBRS, SBIC and SBIS (R262, R272, R276 to R279 41_branch.md): the byte SBIC and SBIS read is the one at data
address A + 0x20, and only a PIN read has a side effect, the draws. That these are a counter of the state which such a read
raises by 8 is the model's choice (log entry 4). -/
def Obligations.Skips : Prop :=
  ∀ (s : State) (d r a : BitVec 5) (b : BitVec 3),
    let x : Word := BitVec.ofNat 16 (a.toNat + 0x20)
    (encode (.cpse d r) = [0b000100#6 ++ r.extractLsb' 4 1 ++ d ++ r.extractLsb' 0 4] ∧
      ∃ t, exec (.cpse d r) s = .next t ∧ skips (s.reg d == s.reg r) s s t) ∧
    (encode (.sbrc r b) = [0b1111110#7 ++ r ++ 0b0#1 ++ b] ∧
      ∃ t, exec (.sbrc r b) s = .next t ∧ skips (!(s.reg r).getLsbD b.toNat) s s t) ∧
    (encode (.sbrs r b) = [0b1111111#7 ++ r ++ 0b0#1 ++ b] ∧
      ∃ t, exec (.sbrs r b) s = .next t ∧ skips ((s.reg r).getLsbD b.toNat) s s t) ∧
    ((s.readAt x).2 = s ∨ ((∃ p, ioRegAt x = some (.pin p)) ∧ (s.readAt x).2 = { s with draws := s.draws + 8 })) ∧
    (encode (.sbic a b) = [0b10011001#8 ++ a ++ b] ∧
      ∃ t, exec (.sbic a b) s = .next t ∧ skips (!(s.readAt x).1.getLsbD b.toNat) s (s.readAt x).2 t) ∧
    (encode (.sbis a b) = [0b10011011#8 ++ a ++ b] ∧
      ∃ t, exec (.sbis a b) s = .next t ∧ skips ((s.readAt x).1.getLsbD b.toNat) s (s.readAt x).2 t)

/-! ## Data transfer -/

/-- MOV, MOVW and LDI (R301 to R303 42_data_transfer.md). -/
def Obligations.RegisterMoves : Prop :=
  ∀ (s : State) (d r : BitVec 5) (k : BitVec 8),
    (encode (.mov d r) = [0b001011#6 ++ r.extractLsb' 4 1 ++ d ++ r.extractLsb' 0 4] ∧
      ∃ t, exec (.mov d r) s = .next t ∧ t.reg d = s.reg r ∧ aluFrame d [] s t) ∧
    (d.toNat % 2 = 0 → r.toNat % 2 = 0 →
      encode (.movw d r) = [0b00000001#8 ++ d.extractLsb' 1 4 ++ r.extractLsb' 1 4] ∧
      ∃ t, exec (.movw d r) s = .next t ∧ t.reg d = s.reg r ∧ t.reg (d + 1) = s.reg (r + 1) ∧
        regsKept [d, d + 1] s t ∧ t.sreg = s.sreg ∧ ramKept s t ∧ restKept s t ∧ ends 1 1 s t) ∧
    (16 ≤ d.toNat →
      encode (.ldi d k) = [0b1110#4 ++ k.extractLsb' 4 4 ++ d.extractLsb' 0 4 ++ k.extractLsb' 0 4] ∧
      ∃ t, exec (.ldi d k) s = .next t ∧ t.reg d = k ∧ aluFrame d [] s t)

/-- The loads that write no pointer: LD X, LDD Y+q, LDD Z+q and LDS (R304, R309, R312, R313). -/
def Obligations.LoadsWithoutUpdate : Prop :=
  ∀ (s : State) (d : BitVec 5) (q : BitVec 6) (k : Word),
    (dataValid (s.reg 27 ++ s.reg 26) = true →
      encode (.ldX d) = [0b1001000#7 ++ d ++ 0b1100#4] ∧
      ∃ t, exec (.ldX d) s = .next t ∧ loads d (s.reg 27 ++ s.reg 26) 1 2 s t) ∧
    (dataValid ((s.reg 29 ++ s.reg 28) + q.setWidth 16) = true →
      encode (.lddY d q) = [0b10#2 ++ q.extractLsb' 5 1 ++ 0b0#1 ++ q.extractLsb' 3 2 ++ 0b0#1 ++ d ++ 0b1#1 ++
        q.extractLsb' 0 3] ∧
      ∃ t, exec (.lddY d q) s = .next t ∧ loads d ((s.reg 29 ++ s.reg 28) + q.setWidth 16) 1 2 s t) ∧
    (dataValid ((s.reg 31 ++ s.reg 30) + q.setWidth 16) = true →
      encode (.lddZ d q) = [0b10#2 ++ q.extractLsb' 5 1 ++ 0b0#1 ++ q.extractLsb' 3 2 ++ 0b0#1 ++ d ++ 0b0#1 ++
        q.extractLsb' 0 3] ∧
      ∃ t, exec (.lddZ d q) s = .next t ∧ loads d ((s.reg 31 ++ s.reg 30) + q.setWidth 16) 1 2 s t) ∧
    (dataValid k = true →
      encode (.lds d k) = [0b1001000#7 ++ d ++ 0b0000#4, k] ∧
      ∃ t, exec (.lds d k) s = .next t ∧ loads d k 2 2 s t)

/-- The loads that write their pointer: LD X+, -X, Y+, -Y, Z+ and -Z, with Rd no half of the pointer (R305 to R311). -/
def Obligations.LoadsWithUpdate : Prop :=
  ∀ (s : State) (d : BitVec 5),
    (d ∉ [26#5, 27#5] → dataValid (s.reg 27 ++ s.reg 26) = true →
      encode (.ldXInc d) = [0b1001000#7 ++ d ++ 0b1101#4] ∧
      ∃ t, exec (.ldXInc d) s = .next t ∧
        loadsUpdating d (s.reg 27 ++ s.reg 26) .x ((s.reg 27 ++ s.reg 26) + 1) s t) ∧
    (d ∉ [26#5, 27#5] → dataValid ((s.reg 27 ++ s.reg 26) - 1) = true →
      encode (.ldXDec d) = [0b1001000#7 ++ d ++ 0b1110#4] ∧
      ∃ t, exec (.ldXDec d) s = .next t ∧
        loadsUpdating d ((s.reg 27 ++ s.reg 26) - 1) .x ((s.reg 27 ++ s.reg 26) - 1) s t) ∧
    (d ∉ [28#5, 29#5] → dataValid (s.reg 29 ++ s.reg 28) = true →
      encode (.ldYInc d) = [0b1001000#7 ++ d ++ 0b1001#4] ∧
      ∃ t, exec (.ldYInc d) s = .next t ∧
        loadsUpdating d (s.reg 29 ++ s.reg 28) .y ((s.reg 29 ++ s.reg 28) + 1) s t) ∧
    (d ∉ [28#5, 29#5] → dataValid ((s.reg 29 ++ s.reg 28) - 1) = true →
      encode (.ldYDec d) = [0b1001000#7 ++ d ++ 0b1010#4] ∧
      ∃ t, exec (.ldYDec d) s = .next t ∧
        loadsUpdating d ((s.reg 29 ++ s.reg 28) - 1) .y ((s.reg 29 ++ s.reg 28) - 1) s t) ∧
    (d ∉ [30#5, 31#5] → dataValid (s.reg 31 ++ s.reg 30) = true →
      encode (.ldZInc d) = [0b1001000#7 ++ d ++ 0b0001#4] ∧
      ∃ t, exec (.ldZInc d) s = .next t ∧
        loadsUpdating d (s.reg 31 ++ s.reg 30) .z ((s.reg 31 ++ s.reg 30) + 1) s t) ∧
    (d ∉ [30#5, 31#5] → dataValid ((s.reg 31 ++ s.reg 30) - 1) = true →
      encode (.ldZDec d) = [0b1001000#7 ++ d ++ 0b0010#4] ∧
      ∃ t, exec (.ldZDec d) s = .next t ∧
        loadsUpdating d ((s.reg 31 ++ s.reg 30) - 1) .z ((s.reg 31 ++ s.reg 30) - 1) s t)

/-- The stores that write no pointer: ST X, STD Y+q, STD Z+q and STS (R314, R319, R322, R323). -/
def Obligations.StoresWithoutUpdate : Prop :=
  ∀ (s : State) (r : BitVec 5) (q : BitVec 6) (k : Word),
    (storable s (s.reg 27 ++ s.reg 26) →
      encode (.stX r) = [0b1001001#7 ++ r ++ 0b1100#4] ∧
      ∃ t, exec (.stX r) s = .next t ∧ stores (s.reg 27 ++ s.reg 26) (s.reg r) [] 1 2 s t) ∧
    (storable s ((s.reg 29 ++ s.reg 28) + q.setWidth 16) →
      encode (.stdY q r) = [0b10#2 ++ q.extractLsb' 5 1 ++ 0b0#1 ++ q.extractLsb' 3 2 ++ 0b1#1 ++ r ++ 0b1#1 ++
        q.extractLsb' 0 3] ∧
      ∃ t, exec (.stdY q r) s = .next t ∧ stores ((s.reg 29 ++ s.reg 28) + q.setWidth 16) (s.reg r) [] 1 2 s t) ∧
    (storable s ((s.reg 31 ++ s.reg 30) + q.setWidth 16) →
      encode (.stdZ q r) = [0b10#2 ++ q.extractLsb' 5 1 ++ 0b0#1 ++ q.extractLsb' 3 2 ++ 0b1#1 ++ r ++ 0b0#1 ++
        q.extractLsb' 0 3] ∧
      ∃ t, exec (.stdZ q r) s = .next t ∧ stores ((s.reg 31 ++ s.reg 30) + q.setWidth 16) (s.reg r) [] 1 2 s t) ∧
    (storable s k →
      encode (.sts k r) = [0b1001001#7 ++ r ++ 0b0000#4, k] ∧
      ∃ t, exec (.sts k r) s = .next t ∧ stores k (s.reg r) [] 2 2 s t)

/-- The stores that write their pointer: ST X+, -X, Y+, -Y, Z+ and -Z, with Rr no half of the pointer (R315 to R321). -/
def Obligations.StoresWithUpdate : Prop :=
  ∀ (s : State) (r : BitVec 5),
    (r ∉ [26#5, 27#5] → storable s (s.reg 27 ++ s.reg 26) →
      encode (.stXInc r) = [0b1001001#7 ++ r ++ 0b1101#4] ∧
      ∃ t, exec (.stXInc r) s = .next t ∧ t.ptr .x = (s.reg 27 ++ s.reg 26) + 1 ∧
        stores (s.reg 27 ++ s.reg 26) (s.reg r) [26, 27] 1 2 s t) ∧
    (r ∉ [26#5, 27#5] → storable s ((s.reg 27 ++ s.reg 26) - 1) →
      encode (.stXDec r) = [0b1001001#7 ++ r ++ 0b1110#4] ∧
      ∃ t, exec (.stXDec r) s = .next t ∧ t.ptr .x = (s.reg 27 ++ s.reg 26) - 1 ∧
        stores ((s.reg 27 ++ s.reg 26) - 1) (s.reg r) [26, 27] 1 2 s t) ∧
    (r ∉ [28#5, 29#5] → storable s (s.reg 29 ++ s.reg 28) →
      encode (.stYInc r) = [0b1001001#7 ++ r ++ 0b1001#4] ∧
      ∃ t, exec (.stYInc r) s = .next t ∧ t.ptr .y = (s.reg 29 ++ s.reg 28) + 1 ∧
        stores (s.reg 29 ++ s.reg 28) (s.reg r) [28, 29] 1 2 s t) ∧
    (r ∉ [28#5, 29#5] → storable s ((s.reg 29 ++ s.reg 28) - 1) →
      encode (.stYDec r) = [0b1001001#7 ++ r ++ 0b1010#4] ∧
      ∃ t, exec (.stYDec r) s = .next t ∧ t.ptr .y = (s.reg 29 ++ s.reg 28) - 1 ∧
        stores ((s.reg 29 ++ s.reg 28) - 1) (s.reg r) [28, 29] 1 2 s t) ∧
    (r ∉ [30#5, 31#5] → storable s (s.reg 31 ++ s.reg 30) →
      encode (.stZInc r) = [0b1001001#7 ++ r ++ 0b0001#4] ∧
      ∃ t, exec (.stZInc r) s = .next t ∧ t.ptr .z = (s.reg 31 ++ s.reg 30) + 1 ∧
        stores (s.reg 31 ++ s.reg 30) (s.reg r) [30, 31] 1 2 s t) ∧
    (r ∉ [30#5, 31#5] → storable s ((s.reg 31 ++ s.reg 30) - 1) →
      encode (.stZDec r) = [0b1001001#7 ++ r ++ 0b0010#4] ∧
      ∃ t, exec (.stZDec r) s = .next t ∧ t.ptr .z = (s.reg 31 ++ s.reg 30) - 1 ∧
        stores ((s.reg 31 ++ s.reg 30) - 1) (s.reg r) [30, 31] 1 2 s t)

/-- The three forms of LPM (R324 to R326), and the fault beyond program memory, which leaves everything but the halt record
as it was (R104 20_memory.md). -/
def Obligations.ProgramMemoryLoads : Prop :=
  ∀ (s : State) (d : BitVec 5),
    let z : Word := s.reg 31 ++ s.reg 30
    encode .lpmR0 = [0x95C8] ∧ encode (.lpmZ d) = [0b1001000#7 ++ d ++ 0b0100#4] ∧
    encode (.lpmZInc d) = [0b1001000#7 ++ d ++ 0b0101#4] ∧
    (z.toNat < 32768 →
      (∃ t w, exec .lpmR0 s = .next t ∧ s.progWord (z >>> 1) = some w ∧
        t.reg 0 = (if z.getLsbD 0 then w.extractLsb' 8 8 else w.extractLsb' 0 8) ∧ regsKept [0] s t ∧
        t.sreg = s.sreg ∧ ramKept s t ∧ restKept s t ∧ ends 1 3 s t) ∧
      (∃ t w, exec (.lpmZ d) s = .next t ∧ s.progWord (z >>> 1) = some w ∧
        t.reg d = (if z.getLsbD 0 then w.extractLsb' 8 8 else w.extractLsb' 0 8) ∧ regsKept [d] s t ∧
        t.sreg = s.sreg ∧ ramKept s t ∧ restKept s t ∧ ends 1 3 s t) ∧
      (d ∉ [30#5, 31#5] →
        ∃ t w, exec (.lpmZInc d) s = .next t ∧ s.progWord (z >>> 1) = some w ∧
          t.reg d = (if z.getLsbD 0 then w.extractLsb' 8 8 else w.extractLsb' 0 8) ∧ t.ptr .z = z + 1 ∧
          regsKept [d, 30, 31] s t ∧ t.sreg = s.sreg ∧ ramKept s t ∧ restKept s t ∧ ends 1 3 s t)) ∧
    (32768 ≤ z.toNat → ∀ i ∈ [Instr.lpmR0, .lpmZ d, .lpmZInc d], exec i s = .next (s.raise (.programReadOutOfRange z)))

/-- IN and OUT at every I/O address (R327, R328 42_data_transfer.md): the data address A + 0x20 always exists. -/
def Obligations.InAndOut : Prop :=
  ∀ (s : State) (d r : BitVec 5) (a : BitVec 6),
    let x : Word := BitVec.ofNat 16 (a.toNat + 0x20)
    (encode (.inIo d a) = [0b10110#5 ++ a.extractLsb' 4 2 ++ d ++ a.extractLsb' 0 4] ∧
      ∃ t, exec (.inIo d a) s = .next t ∧ loads d x 1 1 s t) ∧
    (Memory.wf s.mem = true →
      encode (.outIo a r) = [0b10111#5 ++ a.extractLsb' 4 2 ++ r ++ a.extractLsb' 0 4] ∧
      ∃ t, exec (.outIo a r) s = .next t ∧ stores x (s.reg r) [] 1 1 s t)

/-- PUSH and POP at every stack address that exists (R329, R330 42_data_transfer.md). Where the stored byte lands in SPL or
SPH, SP is decremented from what the store left (the model's reading, log entry 6). -/
def Obligations.PushAndPop : Prop :=
  ∀ (s : State) (d r : BitVec 5),
    (storable s s.sp →
      encode (.push r) = [0b1001001#7 ++ r ++ 0b1111#4] ∧
      ∃ t, exec (.push r) s = .next t ∧ ends 1 2 s t ∧ (∀ b : Word, b ≠ s.sp → t.ram b = s.ram b) ∧
        match route s.sp with
        | .cell => t.ram s.sp = s.reg r ∧ regsKept [] s t ∧ t.sreg = s.sreg ∧ restKept (s.setSp (s.sp - 1)) t
        | .register q =>
          t.reg q = s.reg r ∧ regsKept [q] s t ∧ ramKept s t ∧ t.sreg = s.sreg ∧ restKept (s.setSp (s.sp - 1)) t
        | .io x =>
          let u := s.writeIo x (s.reg r)
          regsKept [] s t ∧ ramKept s t ∧ t.sreg = u.sreg ∧ restKept (u.setSp (u.sp - 1)) t) ∧
    (dataValid (s.sp + 1) = true →
      encode (.pop d) = [0b1001000#7 ++ d ++ 0b1111#4] ∧
      ∃ t, exec (.pop d) s = .next t ∧ t.reg d = (s.readAt (s.sp + 1)).1 ∧ regsKept [d] s t ∧ t.sreg = s.sreg ∧
        ramKept s t ∧ restKept ((s.readAt (s.sp + 1)).2.setSp (s.sp + 1)) t ∧ ends 1 2 s t)

/-- A data access beyond `DATA_END` halts with that address and changes nothing else: no pointer, no destination, no SP, no
pc, no cycle (R17 00_scope.md, R110 20_memory.md, R300 and R332 42_data_transfer.md, R266 41_branch.md). Where the second of
two stack accesses has no address, the first one stays: the pop of a return at SP = 0x08FE, the push of a call at SP = 0. -/
def Obligations.DataAddressFaults : Prop :=
  ∀ (s : State) (d : BitVec 5) (q : BitVec 6) (k : Word) (o : BitVec 12) (l : BitVec 22),
    let x : Word := s.reg 27 ++ s.reg 26
    let y : Word := s.reg 29 ++ s.reg 28
    let z : Word := s.reg 31 ++ s.reg 30
    let halts (a : Word) (is : List Instr) : Prop :=
      0x08FF < a.toNat → ∀ i ∈ is, i.wellFormed = true → exec i s = .next (s.raise (.dataAddressOutOfRange a))
    halts x [.ldX d, .stX d, .ldXInc d, .stXInc d] ∧ halts (x - 1) [.ldXDec d, .stXDec d] ∧
    halts y [.ldYInc d, .stYInc d] ∧ halts (y - 1) [.ldYDec d, .stYDec d] ∧
    halts z [.ldZInc d, .stZInc d] ∧ halts (z - 1) [.ldZDec d, .stZDec d] ∧
    halts (y + q.setWidth 16) [.lddY d q, .stdY q d] ∧ halts (z + q.setWidth 16) [.lddZ d q, .stdZ q d] ∧
    halts k [.lds d k, .sts k d] ∧
    halts s.sp [.push d, .rcall o, .icall, .call l] ∧ halts (s.sp + 1) [.pop d, .ret, .reti] ∧
    (s.sp = 0x08FE → ∀ i ∈ [Instr.ret, .reti],
      exec i s = .next ((s.setSp 0x08FF).raise (.dataAddressOutOfRange 0x0900))) ∧
    (s.sp = 0 → exec (.rcall o) s = .next (secondPushFault (s.pc + 1) s) ∧
      exec .icall s = .next (secondPushFault (s.pc + 1) s) ∧
      (l.toNat < 0x10000 → exec (.call l) s = .next (secondPushFault (s.pc + 2) s)))

/-! ## MCU control -/

/-- NOP, WDR and SLEEP; and BREAK, which halts the block with stop reason Break and pc left at the BREAK, and changes nothing
else (R380 to R383 44_mcu_control.md, R400 60_exceptions.md). -/
def Obligations.McuControl : Prop :=
  ∀ s : State,
    (encode .nop = [0x0000] ∧ ∃ t, exec .nop s = .next t ∧ jumps (s.pc + 1) 1 s t) ∧
    (encode .wdr = [0x95A8] ∧ ∃ t, exec .wdr s = .next t ∧ jumps (s.pc + 1) 1 s t) ∧
    (encode .sleep = [0x9588] ∧
      ∃ t, exec .sleep s = .next t ∧ jumps (s.pc + 1) 1 (s.setSleeping (s.sleeping || s.smcr.getLsbD 0)) t) ∧
    (encode .brk = [0x9598] ∧ exec .brk s = .next { s with halted := some (.breakpoint s.pc) })

/-! ## The data space and its registers -/

/-- The data space (R31 10_state.md, R110 to R112 20_memory.md): addresses 0..31 are the general registers themselves; SRAM
and plain cells return the last byte written and nothing else changes. -/
def Obligations.DataSpaceReadAfterWrite : Prop :=
  ∀ (s : State) (a : Word) (v : Byte),
    (a.toNat ≤ 31 →
      (s.readAt a).1 = s.reg (BitVec.ofNat 5 a.toNat) ∧ (s.readAt a).2 = s ∧
      s.writeAt a v = s.setReg (BitVec.ofNat 5 a.toNat) v) ∧
    (a.toNat ≤ 0x08FF → 0x0100 ≤ a.toNat ∨ (0x20 ≤ a.toNat ∧ ioRegAt a = none) → Memory.wf s.mem = true →
      (s.readAt a).2 = s ∧ ((s.writeAt a v).readAt a).1 = v ∧
      (∀ b : Word, b ≠ a → (s.writeAt a v).ram b = s.ram b) ∧ s.writeAt a v = { s with mem := (s.writeAt a v).mem })

/-- What a read of each block-owned register but PINx returns, and what a write to each but TCCR1C does, the 16-bit ones of
Timer1 apart (R43 and R61 10_state.md, R113 and R114 20_memory.md); a write to PINx toggles (R484 60_exceptions.md). -/
def Obligations.IoRegisterTable : Prop :=
  ∀ (s : State) (v : Byte),
    s.readAt 0x24 = (s.portB.ddr, s) ∧ s.readAt 0x25 = (s.portB.port, s) ∧
    s.readAt 0x27 = (s.portC.ddr, s) ∧ s.readAt 0x28 = (s.portC.port, s) ∧
    s.readAt 0x2A = (s.portD.ddr, s) ∧ s.readAt 0x2B = (s.portD.port, s) ∧
    s.readAt 0x35 = (s.timer0.tifr &&& 0b00000111, s) ∧ s.readAt 0x36 = (s.timer1.tifr &&& 0b00100111, s) ∧
    s.readAt 0x44 = (s.timer0.tccrA &&& 0b11110011, s) ∧ s.readAt 0x45 = (s.timer0.tccrB &&& 0b00001111, s) ∧
    s.readAt 0x46 = (s.timer0.count, s) ∧ s.readAt 0x47 = (s.timer0.ocrABuf, s) ∧
    s.readAt 0x48 = (s.timer0.ocrBBuf, s) ∧ s.readAt 0x53 = (s.smcr &&& 0b00001111, s) ∧
    s.readAt 0x5D = (lowByte s.sp, s) ∧ s.readAt 0x5E = (highByte s.sp, s) ∧ s.readAt 0x5F = (s.sreg, s) ∧
    s.readAt 0x6E = (s.timer0.timsk &&& 0b00000111, s) ∧ s.readAt 0x6F = (s.timer1.timsk &&& 0b00100111, s) ∧
    s.readAt 0x80 = (s.timer1.tccrA &&& 0b11110011, s) ∧ s.readAt 0x81 = (s.timer1.tccrB &&& 0b11011111, s) ∧
    s.readAt 0x82 = (0, s) ∧
    s.writeAt 0x23 v = { s with portB := { s.portB with port := s.portB.port ^^^ v } } ∧
    s.writeAt 0x26 v = { s with portC := { s.portC with port := s.portC.port ^^^ v } } ∧
    s.writeAt 0x29 v = { s with portD := { s.portD with port := s.portD.port ^^^ v } } ∧
    s.writeAt 0x24 v = { s with portB := { s.portB with ddr := v } } ∧
    s.writeAt 0x25 v = { s with portB := { s.portB with port := v } } ∧
    s.writeAt 0x27 v = { s with portC := { s.portC with ddr := v } } ∧
    s.writeAt 0x28 v = { s with portC := { s.portC with port := v } } ∧
    s.writeAt 0x2A v = { s with portD := { s.portD with ddr := v } } ∧
    s.writeAt 0x2B v = { s with portD := { s.portD with port := v } } ∧
    s.writeAt 0x35 v = { s with timer0 := { s.timer0 with tifr := s.timer0.tifr &&& ~~~(v &&& 0b00000111) } } ∧
    s.writeAt 0x36 v = { s with timer1 := { s.timer1 with tifr := s.timer1.tifr &&& ~~~(v &&& 0b00100111) } } ∧
    s.writeAt 0x44 v = { s with timer0 := { s.timer0 with tccrA := v &&& 0b11110011 } } ∧
    (s.writeAt 0x45 v).timer0 = { s.timer0 with
      tccrB := v &&& 0b00001111
      psc := if v.extractLsb' 0 3 = s.timer0.tccrB.extractLsb' 0 3 then s.timer0.psc else 0 } ∧
    s.writeAt 0x46 v = { s with timer0 := { s.timer0 with count := v, cmpBlock := true } } ∧
    (s.timer0.mode0.isPwm = false →
      s.writeAt 0x47 v = { s with timer0 := { s.timer0 with ocrABuf := v, ocrAAct := v } } ∧
      s.writeAt 0x48 v = { s with timer0 := { s.timer0 with ocrBBuf := v, ocrBAct := v } }) ∧
    (s.timer0.mode0.isPwm = true →
      s.writeAt 0x47 v = { s with timer0 := { s.timer0 with ocrABuf := v } } ∧
      s.writeAt 0x48 v = { s with timer0 := { s.timer0 with ocrBBuf := v } }) ∧
    s.writeAt 0x53 v = { s with smcr := v &&& 0b00001111 } ∧
    s.writeAt 0x5D v = { s with sp := highByte s.sp ++ v } ∧ s.writeAt 0x5E v = { s with sp := v ++ lowByte s.sp } ∧
    s.writeAt 0x5F v = { s with sreg := v } ∧
    s.writeAt 0x6E v = { s with timer0 := { s.timer0 with timsk := v &&& 0b00000111 } } ∧
    s.writeAt 0x6F v = { s with timer1 := { s.timer1 with timsk := v &&& 0b00100111 } } ∧
    s.writeAt 0x80 v = { s with timer1 := { s.timer1 with tccrA := v &&& 0b11110011 } } ∧
    s.writeAt 0x81 v = { s with timer1 := { s.timer1 with
      tccrB := v &&& 0b11011111
      psc := if v.extractLsb' 0 3 = s.timer1.tccrB.extractLsb' 0 3 then s.timer1.psc else 0 } }

/-- The 16-bit registers of Timer1 through TEMP1 (R118 20_memory.md): reads, and writes of a value high byte first. -/
def Obligations.SixteenBitAccess : Prop :=
  ∀ (s : State) (hi lo : Byte),
    s.readAt 0x84 = (lowByte s.timer1.count, { s with temp1 := highByte s.timer1.count }) ∧
    ((s.readAt 0x84).2.readAt 0x85).1 = highByte s.timer1.count ∧ s.readAt 0x85 = (s.temp1, s) ∧
    s.readAt 0x86 = (lowByte s.icr1, { s with temp1 := highByte s.icr1 }) ∧
    ((s.readAt 0x86).2.readAt 0x87).1 = highByte s.icr1 ∧ s.readAt 0x87 = (s.temp1, s) ∧
    s.readAt 0x88 = (lowByte s.timer1.ocrABuf, s) ∧ s.readAt 0x89 = (highByte s.timer1.ocrABuf, s) ∧
    s.readAt 0x8A = (lowByte s.timer1.ocrBBuf, s) ∧ s.readAt 0x8B = (highByte s.timer1.ocrBBuf, s) ∧
    (∀ a ∈ [0x85#16, 0x87#16, 0x89#16, 0x8B#16], s.writeAt a hi = { s with temp1 := hi }) ∧
    s.writeAt 0x84 lo = { s with timer1 := { s.timer1 with count := s.temp1 ++ lo, cmpBlock := true } } ∧
    s.writeAt 0x86 lo = (if s.timer1.wgm1.toNat ∈ [8, 10, 12, 14] then { s with icr1 := s.temp1 ++ lo } else s) ∧
    s.writeAt 0x88 lo = { s with timer1 := { s.timer1 with
      ocrABuf := s.temp1 ++ lo
      ocrAAct := if s.timer1.wgm1.toNat ∈ [0, 4, 12, 13] then s.temp1 ++ lo else s.timer1.ocrAAct } } ∧
    s.writeAt 0x8A lo = { s with timer1 := { s.timer1 with
      ocrBBuf := s.temp1 ++ lo
      ocrBAct := if s.timer1.wgm1.toNat ∈ [0, 4, 12, 13] then s.temp1 ++ lo else s.timer1.ocrBAct } } ∧
    ((s.writeAt 0x85 hi).writeAt 0x84 lo).timer1.count = hi ++ lo

/-! ## Ports -/

/-- A pin's level and a CPU read of PINx (R481 60_exceptions.md): a driven output, an injected level, the pull-up, or a
free value; and the two read-after-write properties of R483, with the host's injection between. That the free value is the
one of the draw counter's number, and that a read raises the counter by 8, is the model's choice (log entry 4). -/
def Obligations.PinLevelsAndReadAfterWrite : Prop :=
  ∀ (s : State) (p : PortId) (n : Fin 8) (v : Byte) (l : Level),
    ((s.portOf p).ddr.getLsbD n = true →
      (s.portOf p).level n = some (if (s.portOf p).port.getLsbD n then .high else .low)) ∧
    ((s.portOf p).ddr.getLsbD n = false → (s.portOf p).level n =
      match (s.portOf p).ext.get n with
      | some l => some l
      | none => if (s.portOf p).port.getLsbD n then some .high else none) ∧
    (s.readIo (.pin p)).1.getLsbD n =
      (match (s.portOf p).level n with
       | some l => decide (l = .high)
       | none => Config.freeLevel (s.draws + n)) ∧
    (s.readIo (.pin p)).2 = { s with draws := s.draws + 8 } ∧
    ((s.portOf p).ddr = 0xFF →
      ((s.writeIo (.port p) v).readIo (.port p)).1 = v ∧ ((s.writeIo (.port p) v).readIo (.pin p)).1 = v) ∧
    ((s.portOf p).ddr.getLsbD n = false →
      ((s.inject p n (some l)).readIo (.pin p)).1.getLsbD n = decide (l = .high) ∧
      ((s.inject p n (some l)).readIo (.port p)).1 = (s.portOf p).port)

/-- A pin action writes the PORT bit of the compare output's pin where that pin is an output, and does nothing else (R454,
R482 60_exceptions.md); and the bit a tick leaves at each compare output, in every mode that is not reserved, by the compare
output mode: the match, then the wrap of a fast mode (R451, R453). -/
def Obligations.PinActionWritesPort : Prop :=
  (∀ (s : State), ∀ c ∈ [(TimerId.t0, Channel.a, PortId.d, (6 : Fin 8)), (.t0, .b, .d, 5), (.t1, .a, .b, 1), (.t1, .b, .b, 2)],
    ((s.portOf c.2.2.1).ddr.getLsbD c.2.2.2 = false → ∀ a, s.pinAction c.1 c.2.1 a = s) ∧
    s.pinAction c.1 c.2.1 .keep = s ∧
    (∀ a, ∃ v, s.pinAction c.1 c.2.1 a = s.setPort c.2.2.1 { s.portOf c.2.2.1 with port := v } ∧
      ∀ j, j < 8 → v.getLsbD j =
        if j = c.2.2.2.val ∧ (s.portOf c.2.2.1).ddr.getLsbD c.2.2.2 = true then
          (match a with
           | .keep => (s.portOf c.2.2.1).port.getLsbD j
           | .set => true
           | .clear => false
           | .toggle => !(s.portOf c.2.2.1).port.getLsbD j)
        else (s.portOf c.2.2.1).port.getLsbD j)) ∧
  (∀ s : State, s.timer0.mode0.kind ≠ .reserved →
    let t := s.timer0
    let m := t.mode0
    let top := t.topVal m 0
    ∃ v, s.tick0 = { s with timer0 := t.tick m 0, portD := { s.portD with port := v } } ∧
      ∀ j, j < 8 → v.getLsbD j =
        let old := s.portD.port.getLsbD j
        if s.portD.ddr.getLsbD j = false then old
        else if j = 6 then
          pinAfter m.kind (t.com .a).toNat (decide (t.wgm0.toNat ∈ [5, 7]))
            (!t.cmpBlock && decide (t.count = comparedA t m)) (movingUp t m.kind top) (wrapping t m.kind top) old
        else if j = 5 then
          pinAfter m.kind (t.com .b).toNat false (!t.cmpBlock && decide (t.count = comparedB t m)) (movingUp t m.kind top)
            (wrapping t m.kind top) old
        else old) ∧
  (∀ s : State, s.timer1.mode1.kind ≠ .reserved →
    let t := s.timer1
    let m := t.mode1
    let top := t.topVal m s.icr1
    ∃ v, s.tick1 = { s with timer1 := t.tick m s.icr1, portB := { s.portB with port := v } } ∧
      ∀ j, j < 8 → v.getLsbD j =
        let old := s.portB.port.getLsbD j
        if s.portB.ddr.getLsbD j = false then old
        else if j = 1 then
          pinAfter m.kind (t.com .a).toNat (decide (t.wgm1.toNat ∈ [9, 11, 14, 15]))
            (!t.cmpBlock && decide (t.count = comparedA t m)) (movingUp t m.kind top) (wrapping t m.kind top) old
        else if j = 2 then
          pinAfter m.kind (t.com .b).toNat false (!t.cmpBlock && decide (t.count = comparedB t m)) (movingUp t m.kind top)
            (wrapping t m.kind top) old
        else old)

/-! ## Timers -/

/-- DOC's timer property for Timer0 (R457 60_exceptions.md), at every cycle count k: from count 0 with prescaler P, TOV0 is
first set after P * 256 cycles in mode 0 and after P * (T + 1) in mode 7; OCF0A after P * (T + 1) in CTC mode; and in each
of them, with COM0A = 01 and the pin an output, OC0A toggles exactly once up to then. -/
def Obligations.Timer0OverflowTime : Prop :=
  ∀ (s : State) (k : Nat), fresh0 s →
    let P := factor s.timer0.cs
    let T := s.timer0.ocrABuf.toNat
    (s.timer0.wgm0 = 0 →
      (s.advance k).timer0.tifr.getLsbD 0 = (s.timer0.tifr.getLsbD 0 || decide (P * 256 ≤ k)) ∧
      (s.portD.ddr.getLsbD 6 = true → s.timer0.com .a = 1 → k ≤ P * 256 →
        (s.advance k).portD.port.getLsbD 6 = (s.portD.port.getLsbD 6 ^^ decide (P * (T + 1) ≤ k)))) ∧
    (s.timer0.wgm0 = 7 → s.timer0.ocrAAct = s.timer0.ocrABuf →
      (s.advance k).timer0.tifr.getLsbD 0 = (s.timer0.tifr.getLsbD 0 || decide (P * (T + 1) ≤ k)) ∧
      (s.portD.ddr.getLsbD 6 = true → s.timer0.com .a = 1 → k ≤ P * (T + 1) →
        (s.advance k).portD.port.getLsbD 6 = (s.portD.port.getLsbD 6 ^^ decide (P * (T + 1) ≤ k)))) ∧
    (s.timer0.wgm0 = 2 →
      (s.advance k).timer0.tifr.getLsbD 1 = (s.timer0.tifr.getLsbD 1 || decide (P * (T + 1) ≤ k)) ∧
      (T < 255 → (s.advance k).timer0.tifr.getLsbD 0 = s.timer0.tifr.getLsbD 0) ∧
      (s.portD.ddr.getLsbD 6 = true → s.timer0.com .a = 1 → k ≤ P * (T + 1) →
        (s.advance k).portD.port.getLsbD 6 = (s.portD.port.getLsbD 6 ^^ decide (P * (T + 1) ≤ k))))

/-- The same property for Timer1 (R457 60_exceptions.md): mode 0 with T = 0xFFFF, mode 15 with T = OCR1A, and CTC mode 4. -/
def Obligations.Timer1OverflowTime : Prop :=
  ∀ (s : State) (k : Nat), fresh1 s →
    let P := factor s.timer1.cs
    let T := s.timer1.ocrABuf.toNat
    (s.timer1.wgm1 = 0 →
      (s.advance k).timer1.tifr.getLsbD 0 = (s.timer1.tifr.getLsbD 0 || decide (P * 65536 ≤ k)) ∧
      (s.portB.ddr.getLsbD 1 = true → s.timer1.com .a = 1 → k ≤ P * 65536 →
        (s.advance k).portB.port.getLsbD 1 = (s.portB.port.getLsbD 1 ^^ decide (P * (T + 1) ≤ k)))) ∧
    (s.timer1.wgm1 = 15 → s.timer1.ocrAAct = s.timer1.ocrABuf →
      (s.advance k).timer1.tifr.getLsbD 0 = (s.timer1.tifr.getLsbD 0 || decide (P * (T + 1) ≤ k)) ∧
      (s.portB.ddr.getLsbD 1 = true → s.timer1.com .a = 1 → k ≤ P * (T + 1) →
        (s.advance k).portB.port.getLsbD 1 = (s.portB.port.getLsbD 1 ^^ decide (P * (T + 1) ≤ k)))) ∧
    (s.timer1.wgm1 = 4 →
      (s.advance k).timer1.tifr.getLsbD 1 = (s.timer1.tifr.getLsbD 1 || decide (P * (T + 1) ≤ k)) ∧
      (T < 65535 → (s.advance k).timer1.tifr.getLsbD 0 = s.timer1.tifr.getLsbD 0) ∧
      (s.portB.ddr.getLsbD 1 = true → s.timer1.com .a = 1 → k ≤ P * (T + 1) →
        (s.advance k).portB.port.getLsbD 1 = (s.portB.port.getLsbD 1 ^^ decide (P * (T + 1) ≤ k))))

/-- One tick of a timer in each mode that is not reserved (R451, R452 60_exceptions.md): OCFnX is set exactly when the count
left equals the compare value and no count write blocks it, and the block is lifted; the count, the direction, TOV, ICF, and
the points at which the double-buffered compare values are taken over; and the kind and TOP of every mode (R450, R460). -/
def Obligations.CompareMatchSetsFlag : Prop :=
  (∀ (t : Timer 8) (icr : BitVec 8),
    t.mode0.kind = [WaveKind.normal, .pc, .ctc, .fast, .reserved, .pc, .reserved, .fast].getD t.wgm0.toNat .reserved ∧
    (t.mode0.kind ≠ .reserved →
      t.topVal t.mode0 icr = [0xFF, 0xFF, t.ocrABuf, 0xFF, 0, t.ocrAAct, 0, t.ocrAAct].getD t.wgm0.toNat 0 ∧
      compares t (t.tick t.mode0 icr) t.mode0 ∧
      counts t (t.tick t.mode0 icr) t.mode0.kind (t.topVal t.mode0 icr) false)) ∧
  (∀ (t : Timer 16) (icr : BitVec 16),
    t.mode1.kind = [WaveKind.normal, .pc, .pc, .pc, .ctc, .fast, .fast, .fast, .pfc, .pfc, .pc, .pc, .ctc, .reserved, .fast,
      .fast].getD t.wgm1.toNat .reserved ∧
    (t.mode1.kind ≠ .reserved →
      t.topVal t.mode1 icr = [0xFFFF, 0xFF, 0x1FF, 0x3FF, t.ocrABuf, 0xFF, 0x1FF, 0x3FF, icr, t.ocrAAct, icr, t.ocrAAct, icr, 0,
        icr, t.ocrAAct].getD t.wgm1.toNat 0 ∧
      compares t (t.tick t.mode1 icr) t.mode1 ∧
      counts t (t.tick t.mode1 icr) t.mode1.kind (t.topVal t.mode1 icr) (decide (t.wgm1.toNat ∈ [8, 10, 12, 14]))))

/-- The dual-slope count of Timer0 and of Timer1 (R451 60_exceptions.md): from BOTTOM, counting down, with TOP = T at least 1
and no pending change of TOP, the count after j ticks is j up to T and 2T - j from there to 2T, so a period is 2T ticks. -/
def Obligations.DualSlopePeriod : Prop := dualSlopeCounts 8 ∧ dualSlopeCounts 16

/-- Force-output-compare strobes (R456 60_exceptions.md; R114 20_memory.md): a write of TCCR1C is the pin actions of its two
strobes and nothing else; a write of TCCR0B stores its bits 3:0, restarts the prescaler if CS changes, and is then the pin
actions of its two strobes in the mode after the write. A strobe acts as a match does in a Normal or CTC mode and is ignored
in every other; so it sets no flag, loads no count and blocks no compare; and it reads 0. -/
def Obligations.ForceOutputCompare : Prop :=
  ∀ (s : State) (v : Byte),
    (s.writeAt 0x82 v =
      (s.pinAction .t1 .a (forced s.timer1.mode1.kind (s.timer1.com .a) (v.getLsbD 7))).pinAction .t1 .b
        (forced s.timer1.mode1.kind (s.timer1.com .b) (v.getLsbD 6))) ∧
    (let u : State := { s with timer0 := { s.timer0 with
        tccrB := v &&& 0b00001111
        psc := if v.extractLsb' 0 3 = s.timer0.tccrB.extractLsb' 0 3 then s.timer0.psc else 0 } }
     s.writeAt 0x45 v =
      (u.pinAction .t0 .a (forced u.timer0.mode0.kind (u.timer0.com .a) (v.getLsbD 7))).pinAction .t0 .b
        (forced u.timer0.mode0.kind (u.timer0.com .b) (v.getLsbD 6))) ∧
    ((s.writeAt 0x82 v).timer1 = s.timer1 ∧ (s.writeAt 0x45 v).timer0.count = s.timer0.count ∧
      (s.writeAt 0x45 v).timer0.tifr = s.timer0.tifr ∧ (s.writeAt 0x45 v).timer0.cmpBlock = s.timer0.cmpBlock) ∧
    (s.readAt 0x82).1 = 0 ∧ ((s.writeAt 0x45 v).readAt 0x45).1 = v &&& 0b00001111

/-- The input capture unit (R462 60_exceptions.md): in a "capture" mode the selected edge
copies TCNT1 to ICR1 and sets ICF1, the other edge only moves the recognised level, and the first sample gives no edge;
with the noise canceller on, an edge takes the fourth sample in a row that differs. -/
def Obligations.InputCapture : Prop :=
  ∀ (s : State) (l m : Level), s.timer1.mode1.icrCaptures = true →
    (s.icpLevel = none →
      s.inputCapture l = { s with icpLevel := some l, icpCount := 0 }) ∧
    (s.icpLevel = some l → s.inputCapture l = { s with icpCount := 0 }) ∧
    (s.icpLevel = some m → m ≠ l → (s.timer1.tccrB.getLsbD 7 = false ∨ 3 ≤ s.icpCount) →
      s.inputCapture l =
        (if s.timer1.tccrB.getLsbD 6 = decide (l = .high) then
          { s with icpLevel := some l, icpCount := 0, icr1 := s.timer1.count,
                   timer1 := { s.timer1 with tifr := s.timer1.tifr ||| 0b00100000 } }
         else { s with icpLevel := some l, icpCount := 0 })) ∧
    (s.icpLevel = some m → m ≠ l → s.timer1.tccrB.getLsbD 7 = true → s.icpCount < 3 →
      s.inputCapture l = { s with icpCount := s.icpCount + 1 })

/-- When a cycle ticks a timer (R441 to R443 60_exceptions.md): never while it is stopped, at the last count of its prescaler,
or at the selected edge of its external clock, whose level is kept from cycle to cycle; pins are sampled before either timer
ticks (said where none of the three floats). The first tick in a reserved waveform mode halts the block with TimerModeReserved and counts nothing; without a tick
the mode does no harm (R455). -/
def Obligations.ReservedModeHalts : Prop :=
  (∀ (t : Timer 8) (l : Level), ticksWhenDue t l) ∧ (∀ (t : Timer 16) (l : Level), ticksWhenDue t l) ∧
  (∀ (s : State) (l : Level),
    (let u : State := { s with timer0 := { s.timer0 with psc := (s.timer0.tickDue l).1, extClkPrev := some l } }
     s.clock0 l = if (s.timer0.tickDue l).2 then u.tick0 else u) ∧
    (let u : State := { s with timer1 := { s.timer1 with psc := (s.timer1.tickDue l).1, extClkPrev := some l } }
     s.clock1 l = if (s.timer1.tickDue l).2 then u.tick1 else u) ∧
    (∀ l0 l1 : Level, s.portB.level 0 = some l → s.portD.level 4 = some l0 → s.portD.level 5 = some l1 →
      ∃ d, let c := ({ s with draws := d }.inputCapture l).clock0 l0
        c.halted = none → s.advanceCycle = c.clock1 l1) ∧
    (s.timer0.wgm0 = 4 ∨ s.timer0.wgm0 = 6 →
      ((s.timer0.tickDue l).2 = true → (s.clock0 l).halted = some (.timerModeReserved .t0 s.timer0.wgm0.toNat) ∧
        (s.clock0 l).timer0.count = s.timer0.count) ∧
      ((s.timer0.tickDue l).2 = false → (s.clock0 l).halted = s.halted) ∧
      (s.timer0.cs = 0 → (s.timer0.tickDue l).2 = false)) ∧
    (s.timer1.wgm1 = 13 →
      ((s.timer1.tickDue l).2 = true → (s.clock1 l).halted = some (.timerModeReserved .t1 13) ∧
        (s.clock1 l).timer1.count = s.timer1.count) ∧
      ((s.timer1.tickDue l).2 = false → (s.clock1 l).halted = s.halted) ∧
      (s.timer1.cs = 0 → (s.timer1.tickDue l).2 = false)))

/-! ## Program image and construction -/

/-- The program image (R105 to R107 20_memory.md, R511 70_reset_and_hazards.md): a data record's byte i lands at program byte
address a + i and every other byte is kept; a byte beyond program memory makes the load fail; a text loads its data records
in order and skips every other line and every malformed record whole; and `construct` from a text is a reset block with that
program memory, or refused if the load fails. Lines that end at line feeds, and data that nothing need follow, are the
model's reading (log entry 8); the refusal is log entry 15. -/
def Obligations.RecordBytesLandInOrder : Prop :=
  (∀ (m : Memory) (a : Nat) (bytes : List Byte), Memory.wf m = true →
    (a + bytes.length ≤ 32768 →
      ∃ m', storeRecord m a bytes = some m' ∧ Memory.wf m' = true ∧
        (∀ i : Fin bytes.length, Memory.read m' (a + i) = bytes.get i) ∧
        (∀ b, b < a ∨ a + bytes.length ≤ b → Memory.read m' b = Memory.read m b)) ∧
    (bytes ≠ [] → 32768 < a + bytes.length → storeRecord m a bytes = none)) ∧
  (∀ ls : List (List Char × Option (Nat × List Byte)),
    (∀ p ∈ ls, '\n' ∉ p.1 ∧
      match p.2 with
      | none => skippedLine p.1
      | some r => r.1 < 65536 ∧ r.2.length < 256 ∧ ∃ tail, p.1 = recordLine r.1 r.2 tail) →
    loadImage (List.intercalate ['\n'] (ls.map Prod.fst)) =
      (ls.filterMap Prod.snd).foldlM (fun m r => storeRecord m r.1 r.2) []) ∧
  (∀ text : List Char,
    (loadImage text = none → constructText text = .refused .configurationError) ∧
    (∀ m, loadImage text = some m →
      ∃ t, constructText text = .next t ∧ t = { State.reset with prog := m } ∧
        ∀ w : Word, w.toNat < 16384 →
          t.progWord w = some (Memory.read m (2 * w.toNat + 1) ++ Memory.read m (2 * w.toNat))))

/-- `construct` from a word array (R511 70_reset_and_hazards.md, R404 60_exceptions.md): refused if it is longer than
program memory (as the refusal configurationError, log entry 15); otherwise a reset block whose program memory holds the
array and 0x0000 after it. -/
def Obligations.ConstructFromWords : Prop :=
  ∀ ws : List Word,
    (16384 < ws.length → constructWords ws = .refused .configurationError) ∧
    (ws.length ≤ 16384 → ∃ t, constructWords ws = .next t ∧ t = { State.reset with prog := t.prog } ∧
      ∀ w : Word, w.toNat < 16384 → t.progWord w = some (ws.getD w.toNat 0))
end

