-- ==== Sys2Proof/Laws/Decode.lean ====
section
/-! SUPPORT. Laws/Decode.lean: what the row lookup of decode answers. -/

namespace Sys2Proof

/-- The row found is one of the table, and its pattern matches. -/
theorem findRow_some {w : Word} {r : Row} (h : findRow w = some r) : r ∈ opcodeRows ∧ w &&& r.mask = r.pattern :=
  ⟨List.mem_of_find?_eq_some h, by simpa using List.find?_some h⟩

/-- Every row either matches two-word first words only or builds its instruction from the first word alone. -/
theorem opcodeRows_second_word : ∀ r ∈ opcodeRows,
    (∀ w, w &&& r.mask = r.pattern → isTwoWord w = true) ∨ ∀ w w2, r.build w w2 = r.build w 0 := by
  unfold opcodeRows
  repeat' (first
    | exact List.forall_mem_nil _
    | refine List.forall_mem_cons.mpr ⟨.inr fun _ _ => rfl, ?_⟩
    | refine List.forall_mem_cons.mpr ⟨.inl fun w h => by dsimp only at h; simp [isTwoWord] at h ⊢; simp [h], ?_⟩)

/-- The second word matters to two-word instructions only. -/
theorem decode_one_word {w : Word} (h : isTwoWord w = false) (w2 : Word) : decode w w2 = decode w 0 := by
  unfold decode
  cases hf : findRow w with
  | none => rfl
  | some r =>
    obtain ⟨hm, hp⟩ := findRow_some hf
    rcases opcodeRows_second_word r hm with h2 | hb
    · rw [h2 w hp] at h; cases h
    · simp only [hb w w2]

/-- A decoded instruction is well-formed. -/
theorem decode_wellFormed {w w2 : Word} {i : Instr} (h : decode w w2 = .ok i) : i.wellFormed = true := by
  unfold decode at h
  split at h
  · cases h
  · dsimp only at h
    split at h
    · rename_i hw; cases h; exact hw
    · cases h

end Sys2Proof
end

