-- ==== Sys2Proof/Laws/State.lean ====
section
/-! SUPPORT. Laws/State.lean: one lemma per field per update of State, each true by rfl, and the accessors over the
updates. -/

namespace Sys2Proof.Machine

/-! ### setReg -/

@[simp] theorem State.setReg_regs (s : State) (d : BitVec 5) (v : Byte) : (s.setReg d v).regs = s.regs.set d.toNat v d.isLt := rfl
@[simp] theorem State.setReg_pc (s : State) (d : BitVec 5) (v : Byte) : (s.setReg d v).pc = s.pc := rfl
@[simp] theorem State.setReg_sreg (s : State) (d : BitVec 5) (v : Byte) : (s.setReg d v).sreg = s.sreg := rfl
@[simp] theorem State.setReg_sp (s : State) (d : BitVec 5) (v : Byte) : (s.setReg d v).sp = s.sp := rfl
@[simp] theorem State.setReg_cycles (s : State) (d : BitVec 5) (v : Byte) : (s.setReg d v).cycles = s.cycles := rfl
@[simp] theorem State.setReg_smcr (s : State) (d : BitVec 5) (v : Byte) : (s.setReg d v).smcr = s.smcr := rfl
@[simp] theorem State.setReg_portB (s : State) (d : BitVec 5) (v : Byte) : (s.setReg d v).portB = s.portB := rfl
@[simp] theorem State.setReg_portC (s : State) (d : BitVec 5) (v : Byte) : (s.setReg d v).portC = s.portC := rfl
@[simp] theorem State.setReg_portD (s : State) (d : BitVec 5) (v : Byte) : (s.setReg d v).portD = s.portD := rfl
@[simp] theorem State.setReg_timer0 (s : State) (d : BitVec 5) (v : Byte) : (s.setReg d v).timer0 = s.timer0 := rfl
@[simp] theorem State.setReg_timer1 (s : State) (d : BitVec 5) (v : Byte) : (s.setReg d v).timer1 = s.timer1 := rfl
@[simp] theorem State.setReg_icr1 (s : State) (d : BitVec 5) (v : Byte) : (s.setReg d v).icr1 = s.icr1 := rfl
@[simp] theorem State.setReg_temp1 (s : State) (d : BitVec 5) (v : Byte) : (s.setReg d v).temp1 = s.temp1 := rfl
@[simp] theorem State.setReg_icpLevel (s : State) (d : BitVec 5) (v : Byte) : (s.setReg d v).icpLevel = s.icpLevel := rfl
@[simp] theorem State.setReg_icpCount (s : State) (d : BitVec 5) (v : Byte) : (s.setReg d v).icpCount = s.icpCount := rfl
@[simp] theorem State.setReg_irqInhibit (s : State) (d : BitVec 5) (v : Byte) : (s.setReg d v).irqInhibit = s.irqInhibit := rfl
@[simp] theorem State.setReg_sleeping (s : State) (d : BitVec 5) (v : Byte) : (s.setReg d v).sleeping = s.sleeping := rfl
@[simp] theorem State.setReg_halted (s : State) (d : BitVec 5) (v : Byte) : (s.setReg d v).halted = s.halted := rfl
@[simp] theorem State.setReg_mem (s : State) (d : BitVec 5) (v : Byte) : (s.setReg d v).mem = s.mem := rfl
@[simp] theorem State.setReg_prog (s : State) (d : BitVec 5) (v : Byte) : (s.setReg d v).prog = s.prog := rfl
@[simp] theorem State.setReg_draws (s : State) (d : BitVec 5) (v : Byte) : (s.setReg d v).draws = s.draws := rfl
@[simp] theorem State.setReg_ram (s : State) (d : BitVec 5) (v : Byte) (x : Word) : (s.setReg d v).ram x = s.ram x := rfl
@[simp] theorem State.setReg_flash (s : State) (d : BitVec 5) (v : Byte) (x : Nat) : (s.setReg d v).flash x = s.flash x := rfl
@[simp] theorem State.setReg_flag (s : State) (d : BitVec 5) (v : Byte) (i : Nat) : (s.setReg d v).flag i = s.flag i := rfl
@[simp] theorem State.setReg_progWord (s : State) (d : BitVec 5) (v : Byte) (x : Word) : (s.setReg d v).progWord x = s.progWord x := rfl

/-! ### setPc -/

@[simp] theorem State.setPc_regs (s : State) (v : Word) : (s.setPc v).regs = s.regs := rfl
@[simp] theorem State.setPc_pc (s : State) (v : Word) : (s.setPc v).pc = v := rfl
@[simp] theorem State.setPc_sreg (s : State) (v : Word) : (s.setPc v).sreg = s.sreg := rfl
@[simp] theorem State.setPc_sp (s : State) (v : Word) : (s.setPc v).sp = s.sp := rfl
@[simp] theorem State.setPc_cycles (s : State) (v : Word) : (s.setPc v).cycles = s.cycles := rfl
@[simp] theorem State.setPc_smcr (s : State) (v : Word) : (s.setPc v).smcr = s.smcr := rfl
@[simp] theorem State.setPc_portB (s : State) (v : Word) : (s.setPc v).portB = s.portB := rfl
@[simp] theorem State.setPc_portC (s : State) (v : Word) : (s.setPc v).portC = s.portC := rfl
@[simp] theorem State.setPc_portD (s : State) (v : Word) : (s.setPc v).portD = s.portD := rfl
@[simp] theorem State.setPc_timer0 (s : State) (v : Word) : (s.setPc v).timer0 = s.timer0 := rfl
@[simp] theorem State.setPc_timer1 (s : State) (v : Word) : (s.setPc v).timer1 = s.timer1 := rfl
@[simp] theorem State.setPc_icr1 (s : State) (v : Word) : (s.setPc v).icr1 = s.icr1 := rfl
@[simp] theorem State.setPc_temp1 (s : State) (v : Word) : (s.setPc v).temp1 = s.temp1 := rfl
@[simp] theorem State.setPc_icpLevel (s : State) (v : Word) : (s.setPc v).icpLevel = s.icpLevel := rfl
@[simp] theorem State.setPc_icpCount (s : State) (v : Word) : (s.setPc v).icpCount = s.icpCount := rfl
@[simp] theorem State.setPc_irqInhibit (s : State) (v : Word) : (s.setPc v).irqInhibit = s.irqInhibit := rfl
@[simp] theorem State.setPc_sleeping (s : State) (v : Word) : (s.setPc v).sleeping = s.sleeping := rfl
@[simp] theorem State.setPc_halted (s : State) (v : Word) : (s.setPc v).halted = s.halted := rfl
@[simp] theorem State.setPc_mem (s : State) (v : Word) : (s.setPc v).mem = s.mem := rfl
@[simp] theorem State.setPc_prog (s : State) (v : Word) : (s.setPc v).prog = s.prog := rfl
@[simp] theorem State.setPc_draws (s : State) (v : Word) : (s.setPc v).draws = s.draws := rfl
@[simp] theorem State.setPc_reg (s : State) (v : Word) (q : BitVec 5) : (s.setPc v).reg q = s.reg q := rfl
@[simp] theorem State.setPc_ram (s : State) (v : Word) (x : Word) : (s.setPc v).ram x = s.ram x := rfl
@[simp] theorem State.setPc_flash (s : State) (v : Word) (x : Nat) : (s.setPc v).flash x = s.flash x := rfl
@[simp] theorem State.setPc_flag (s : State) (v : Word) (i : Nat) : (s.setPc v).flag i = s.flag i := rfl
@[simp] theorem State.setPc_progWord (s : State) (v : Word) (x : Word) : (s.setPc v).progWord x = s.progWord x := rfl

/-! ### setSreg -/

@[simp] theorem State.setSreg_regs (s : State) (v : Byte) : (s.setSreg v).regs = s.regs := rfl
@[simp] theorem State.setSreg_pc (s : State) (v : Byte) : (s.setSreg v).pc = s.pc := rfl
@[simp] theorem State.setSreg_sreg (s : State) (v : Byte) : (s.setSreg v).sreg = v := rfl
@[simp] theorem State.setSreg_sp (s : State) (v : Byte) : (s.setSreg v).sp = s.sp := rfl
@[simp] theorem State.setSreg_cycles (s : State) (v : Byte) : (s.setSreg v).cycles = s.cycles := rfl
@[simp] theorem State.setSreg_smcr (s : State) (v : Byte) : (s.setSreg v).smcr = s.smcr := rfl
@[simp] theorem State.setSreg_portB (s : State) (v : Byte) : (s.setSreg v).portB = s.portB := rfl
@[simp] theorem State.setSreg_portC (s : State) (v : Byte) : (s.setSreg v).portC = s.portC := rfl
@[simp] theorem State.setSreg_portD (s : State) (v : Byte) : (s.setSreg v).portD = s.portD := rfl
@[simp] theorem State.setSreg_timer0 (s : State) (v : Byte) : (s.setSreg v).timer0 = s.timer0 := rfl
@[simp] theorem State.setSreg_timer1 (s : State) (v : Byte) : (s.setSreg v).timer1 = s.timer1 := rfl
@[simp] theorem State.setSreg_icr1 (s : State) (v : Byte) : (s.setSreg v).icr1 = s.icr1 := rfl
@[simp] theorem State.setSreg_temp1 (s : State) (v : Byte) : (s.setSreg v).temp1 = s.temp1 := rfl
@[simp] theorem State.setSreg_icpLevel (s : State) (v : Byte) : (s.setSreg v).icpLevel = s.icpLevel := rfl
@[simp] theorem State.setSreg_icpCount (s : State) (v : Byte) : (s.setSreg v).icpCount = s.icpCount := rfl
@[simp] theorem State.setSreg_irqInhibit (s : State) (v : Byte) : (s.setSreg v).irqInhibit = s.irqInhibit := rfl
@[simp] theorem State.setSreg_sleeping (s : State) (v : Byte) : (s.setSreg v).sleeping = s.sleeping := rfl
@[simp] theorem State.setSreg_halted (s : State) (v : Byte) : (s.setSreg v).halted = s.halted := rfl
@[simp] theorem State.setSreg_mem (s : State) (v : Byte) : (s.setSreg v).mem = s.mem := rfl
@[simp] theorem State.setSreg_prog (s : State) (v : Byte) : (s.setSreg v).prog = s.prog := rfl
@[simp] theorem State.setSreg_draws (s : State) (v : Byte) : (s.setSreg v).draws = s.draws := rfl
@[simp] theorem State.setSreg_reg (s : State) (v : Byte) (q : BitVec 5) : (s.setSreg v).reg q = s.reg q := rfl
@[simp] theorem State.setSreg_ram (s : State) (v : Byte) (x : Word) : (s.setSreg v).ram x = s.ram x := rfl
@[simp] theorem State.setSreg_flash (s : State) (v : Byte) (x : Nat) : (s.setSreg v).flash x = s.flash x := rfl
@[simp] theorem State.setSreg_progWord (s : State) (v : Byte) (x : Word) : (s.setSreg v).progWord x = s.progWord x := rfl

/-! ### setSp -/

@[simp] theorem State.setSp_regs (s : State) (v : Word) : (s.setSp v).regs = s.regs := rfl
@[simp] theorem State.setSp_pc (s : State) (v : Word) : (s.setSp v).pc = s.pc := rfl
@[simp] theorem State.setSp_sreg (s : State) (v : Word) : (s.setSp v).sreg = s.sreg := rfl
@[simp] theorem State.setSp_sp (s : State) (v : Word) : (s.setSp v).sp = v := rfl
@[simp] theorem State.setSp_cycles (s : State) (v : Word) : (s.setSp v).cycles = s.cycles := rfl
@[simp] theorem State.setSp_smcr (s : State) (v : Word) : (s.setSp v).smcr = s.smcr := rfl
@[simp] theorem State.setSp_portB (s : State) (v : Word) : (s.setSp v).portB = s.portB := rfl
@[simp] theorem State.setSp_portC (s : State) (v : Word) : (s.setSp v).portC = s.portC := rfl
@[simp] theorem State.setSp_portD (s : State) (v : Word) : (s.setSp v).portD = s.portD := rfl
@[simp] theorem State.setSp_timer0 (s : State) (v : Word) : (s.setSp v).timer0 = s.timer0 := rfl
@[simp] theorem State.setSp_timer1 (s : State) (v : Word) : (s.setSp v).timer1 = s.timer1 := rfl
@[simp] theorem State.setSp_icr1 (s : State) (v : Word) : (s.setSp v).icr1 = s.icr1 := rfl
@[simp] theorem State.setSp_temp1 (s : State) (v : Word) : (s.setSp v).temp1 = s.temp1 := rfl
@[simp] theorem State.setSp_icpLevel (s : State) (v : Word) : (s.setSp v).icpLevel = s.icpLevel := rfl
@[simp] theorem State.setSp_icpCount (s : State) (v : Word) : (s.setSp v).icpCount = s.icpCount := rfl
@[simp] theorem State.setSp_irqInhibit (s : State) (v : Word) : (s.setSp v).irqInhibit = s.irqInhibit := rfl
@[simp] theorem State.setSp_sleeping (s : State) (v : Word) : (s.setSp v).sleeping = s.sleeping := rfl
@[simp] theorem State.setSp_halted (s : State) (v : Word) : (s.setSp v).halted = s.halted := rfl
@[simp] theorem State.setSp_mem (s : State) (v : Word) : (s.setSp v).mem = s.mem := rfl
@[simp] theorem State.setSp_prog (s : State) (v : Word) : (s.setSp v).prog = s.prog := rfl
@[simp] theorem State.setSp_draws (s : State) (v : Word) : (s.setSp v).draws = s.draws := rfl
@[simp] theorem State.setSp_reg (s : State) (v : Word) (q : BitVec 5) : (s.setSp v).reg q = s.reg q := rfl
@[simp] theorem State.setSp_ram (s : State) (v : Word) (x : Word) : (s.setSp v).ram x = s.ram x := rfl
@[simp] theorem State.setSp_flash (s : State) (v : Word) (x : Nat) : (s.setSp v).flash x = s.flash x := rfl
@[simp] theorem State.setSp_flag (s : State) (v : Word) (i : Nat) : (s.setSp v).flag i = s.flag i := rfl
@[simp] theorem State.setSp_progWord (s : State) (v : Word) (x : Word) : (s.setSp v).progWord x = s.progWord x := rfl

/-! ### setIrqInhibit -/

@[simp] theorem State.setIrqInhibit_regs (s : State) (b : Bool) : (s.setIrqInhibit b).regs = s.regs := rfl
@[simp] theorem State.setIrqInhibit_pc (s : State) (b : Bool) : (s.setIrqInhibit b).pc = s.pc := rfl
@[simp] theorem State.setIrqInhibit_sreg (s : State) (b : Bool) : (s.setIrqInhibit b).sreg = s.sreg := rfl
@[simp] theorem State.setIrqInhibit_sp (s : State) (b : Bool) : (s.setIrqInhibit b).sp = s.sp := rfl
@[simp] theorem State.setIrqInhibit_cycles (s : State) (b : Bool) : (s.setIrqInhibit b).cycles = s.cycles := rfl
@[simp] theorem State.setIrqInhibit_smcr (s : State) (b : Bool) : (s.setIrqInhibit b).smcr = s.smcr := rfl
@[simp] theorem State.setIrqInhibit_portB (s : State) (b : Bool) : (s.setIrqInhibit b).portB = s.portB := rfl
@[simp] theorem State.setIrqInhibit_portC (s : State) (b : Bool) : (s.setIrqInhibit b).portC = s.portC := rfl
@[simp] theorem State.setIrqInhibit_portD (s : State) (b : Bool) : (s.setIrqInhibit b).portD = s.portD := rfl
@[simp] theorem State.setIrqInhibit_timer0 (s : State) (b : Bool) : (s.setIrqInhibit b).timer0 = s.timer0 := rfl
@[simp] theorem State.setIrqInhibit_timer1 (s : State) (b : Bool) : (s.setIrqInhibit b).timer1 = s.timer1 := rfl
@[simp] theorem State.setIrqInhibit_icr1 (s : State) (b : Bool) : (s.setIrqInhibit b).icr1 = s.icr1 := rfl
@[simp] theorem State.setIrqInhibit_temp1 (s : State) (b : Bool) : (s.setIrqInhibit b).temp1 = s.temp1 := rfl
@[simp] theorem State.setIrqInhibit_icpLevel (s : State) (b : Bool) : (s.setIrqInhibit b).icpLevel = s.icpLevel := rfl
@[simp] theorem State.setIrqInhibit_icpCount (s : State) (b : Bool) : (s.setIrqInhibit b).icpCount = s.icpCount := rfl
@[simp] theorem State.setIrqInhibit_irqInhibit (s : State) (b : Bool) : (s.setIrqInhibit b).irqInhibit = b := rfl
@[simp] theorem State.setIrqInhibit_sleeping (s : State) (b : Bool) : (s.setIrqInhibit b).sleeping = s.sleeping := rfl
@[simp] theorem State.setIrqInhibit_halted (s : State) (b : Bool) : (s.setIrqInhibit b).halted = s.halted := rfl
@[simp] theorem State.setIrqInhibit_mem (s : State) (b : Bool) : (s.setIrqInhibit b).mem = s.mem := rfl
@[simp] theorem State.setIrqInhibit_prog (s : State) (b : Bool) : (s.setIrqInhibit b).prog = s.prog := rfl
@[simp] theorem State.setIrqInhibit_draws (s : State) (b : Bool) : (s.setIrqInhibit b).draws = s.draws := rfl
@[simp] theorem State.setIrqInhibit_reg (s : State) (b : Bool) (q : BitVec 5) : (s.setIrqInhibit b).reg q = s.reg q := rfl
@[simp] theorem State.setIrqInhibit_ram (s : State) (b : Bool) (x : Word) : (s.setIrqInhibit b).ram x = s.ram x := rfl
@[simp] theorem State.setIrqInhibit_flash (s : State) (b : Bool) (x : Nat) : (s.setIrqInhibit b).flash x = s.flash x := rfl
@[simp] theorem State.setIrqInhibit_flag (s : State) (b : Bool) (i : Nat) : (s.setIrqInhibit b).flag i = s.flag i := rfl
@[simp] theorem State.setIrqInhibit_progWord (s : State) (b : Bool) (x : Word) : (s.setIrqInhibit b).progWord x = s.progWord x := rfl

/-! ### setSleeping -/

@[simp] theorem State.setSleeping_regs (s : State) (b : Bool) : (s.setSleeping b).regs = s.regs := rfl
@[simp] theorem State.setSleeping_pc (s : State) (b : Bool) : (s.setSleeping b).pc = s.pc := rfl
@[simp] theorem State.setSleeping_sreg (s : State) (b : Bool) : (s.setSleeping b).sreg = s.sreg := rfl
@[simp] theorem State.setSleeping_sp (s : State) (b : Bool) : (s.setSleeping b).sp = s.sp := rfl
@[simp] theorem State.setSleeping_cycles (s : State) (b : Bool) : (s.setSleeping b).cycles = s.cycles := rfl
@[simp] theorem State.setSleeping_smcr (s : State) (b : Bool) : (s.setSleeping b).smcr = s.smcr := rfl
@[simp] theorem State.setSleeping_portB (s : State) (b : Bool) : (s.setSleeping b).portB = s.portB := rfl
@[simp] theorem State.setSleeping_portC (s : State) (b : Bool) : (s.setSleeping b).portC = s.portC := rfl
@[simp] theorem State.setSleeping_portD (s : State) (b : Bool) : (s.setSleeping b).portD = s.portD := rfl
@[simp] theorem State.setSleeping_timer0 (s : State) (b : Bool) : (s.setSleeping b).timer0 = s.timer0 := rfl
@[simp] theorem State.setSleeping_timer1 (s : State) (b : Bool) : (s.setSleeping b).timer1 = s.timer1 := rfl
@[simp] theorem State.setSleeping_icr1 (s : State) (b : Bool) : (s.setSleeping b).icr1 = s.icr1 := rfl
@[simp] theorem State.setSleeping_temp1 (s : State) (b : Bool) : (s.setSleeping b).temp1 = s.temp1 := rfl
@[simp] theorem State.setSleeping_icpLevel (s : State) (b : Bool) : (s.setSleeping b).icpLevel = s.icpLevel := rfl
@[simp] theorem State.setSleeping_icpCount (s : State) (b : Bool) : (s.setSleeping b).icpCount = s.icpCount := rfl
@[simp] theorem State.setSleeping_irqInhibit (s : State) (b : Bool) : (s.setSleeping b).irqInhibit = s.irqInhibit := rfl
@[simp] theorem State.setSleeping_sleeping (s : State) (b : Bool) : (s.setSleeping b).sleeping = b := rfl
@[simp] theorem State.setSleeping_halted (s : State) (b : Bool) : (s.setSleeping b).halted = s.halted := rfl
@[simp] theorem State.setSleeping_mem (s : State) (b : Bool) : (s.setSleeping b).mem = s.mem := rfl
@[simp] theorem State.setSleeping_prog (s : State) (b : Bool) : (s.setSleeping b).prog = s.prog := rfl
@[simp] theorem State.setSleeping_draws (s : State) (b : Bool) : (s.setSleeping b).draws = s.draws := rfl
@[simp] theorem State.setSleeping_reg (s : State) (b : Bool) (q : BitVec 5) : (s.setSleeping b).reg q = s.reg q := rfl
@[simp] theorem State.setSleeping_ram (s : State) (b : Bool) (x : Word) : (s.setSleeping b).ram x = s.ram x := rfl
@[simp] theorem State.setSleeping_flash (s : State) (b : Bool) (x : Nat) : (s.setSleeping b).flash x = s.flash x := rfl
@[simp] theorem State.setSleeping_flag (s : State) (b : Bool) (i : Nat) : (s.setSleeping b).flag i = s.flag i := rfl
@[simp] theorem State.setSleeping_progWord (s : State) (b : Bool) (x : Word) : (s.setSleeping b).progWord x = s.progWord x := rfl

/-! ### charge -/

@[simp] theorem State.charge_regs (s : State) (n : Nat) : (s.charge n).regs = s.regs := rfl
@[simp] theorem State.charge_pc (s : State) (n : Nat) : (s.charge n).pc = s.pc := rfl
@[simp] theorem State.charge_sreg (s : State) (n : Nat) : (s.charge n).sreg = s.sreg := rfl
@[simp] theorem State.charge_sp (s : State) (n : Nat) : (s.charge n).sp = s.sp := rfl
@[simp] theorem State.charge_cycles (s : State) (n : Nat) : (s.charge n).cycles = s.cycles + n := rfl
@[simp] theorem State.charge_smcr (s : State) (n : Nat) : (s.charge n).smcr = s.smcr := rfl
@[simp] theorem State.charge_portB (s : State) (n : Nat) : (s.charge n).portB = s.portB := rfl
@[simp] theorem State.charge_portC (s : State) (n : Nat) : (s.charge n).portC = s.portC := rfl
@[simp] theorem State.charge_portD (s : State) (n : Nat) : (s.charge n).portD = s.portD := rfl
@[simp] theorem State.charge_timer0 (s : State) (n : Nat) : (s.charge n).timer0 = s.timer0 := rfl
@[simp] theorem State.charge_timer1 (s : State) (n : Nat) : (s.charge n).timer1 = s.timer1 := rfl
@[simp] theorem State.charge_icr1 (s : State) (n : Nat) : (s.charge n).icr1 = s.icr1 := rfl
@[simp] theorem State.charge_temp1 (s : State) (n : Nat) : (s.charge n).temp1 = s.temp1 := rfl
@[simp] theorem State.charge_icpLevel (s : State) (n : Nat) : (s.charge n).icpLevel = s.icpLevel := rfl
@[simp] theorem State.charge_icpCount (s : State) (n : Nat) : (s.charge n).icpCount = s.icpCount := rfl
@[simp] theorem State.charge_irqInhibit (s : State) (n : Nat) : (s.charge n).irqInhibit = s.irqInhibit := rfl
@[simp] theorem State.charge_sleeping (s : State) (n : Nat) : (s.charge n).sleeping = s.sleeping := rfl
@[simp] theorem State.charge_halted (s : State) (n : Nat) : (s.charge n).halted = s.halted := rfl
@[simp] theorem State.charge_mem (s : State) (n : Nat) : (s.charge n).mem = s.mem := rfl
@[simp] theorem State.charge_prog (s : State) (n : Nat) : (s.charge n).prog = s.prog := rfl
@[simp] theorem State.charge_draws (s : State) (n : Nat) : (s.charge n).draws = s.draws := rfl
@[simp] theorem State.charge_reg (s : State) (n : Nat) (q : BitVec 5) : (s.charge n).reg q = s.reg q := rfl
@[simp] theorem State.charge_ram (s : State) (n : Nat) (x : Word) : (s.charge n).ram x = s.ram x := rfl
@[simp] theorem State.charge_flash (s : State) (n : Nat) (x : Nat) : (s.charge n).flash x = s.flash x := rfl
@[simp] theorem State.charge_flag (s : State) (n : Nat) (i : Nat) : (s.charge n).flag i = s.flag i := rfl
@[simp] theorem State.charge_progWord (s : State) (n : Nat) (x : Word) : (s.charge n).progWord x = s.progWord x := rfl

/-! ### raise -/

@[simp] theorem State.raise_regs (s : State) (f : Fault) : (s.raise f).regs = s.regs := rfl
@[simp] theorem State.raise_pc (s : State) (f : Fault) : (s.raise f).pc = s.pc := rfl
@[simp] theorem State.raise_sreg (s : State) (f : Fault) : (s.raise f).sreg = s.sreg := rfl
@[simp] theorem State.raise_sp (s : State) (f : Fault) : (s.raise f).sp = s.sp := rfl
@[simp] theorem State.raise_cycles (s : State) (f : Fault) : (s.raise f).cycles = s.cycles := rfl
@[simp] theorem State.raise_smcr (s : State) (f : Fault) : (s.raise f).smcr = s.smcr := rfl
@[simp] theorem State.raise_portB (s : State) (f : Fault) : (s.raise f).portB = s.portB := rfl
@[simp] theorem State.raise_portC (s : State) (f : Fault) : (s.raise f).portC = s.portC := rfl
@[simp] theorem State.raise_portD (s : State) (f : Fault) : (s.raise f).portD = s.portD := rfl
@[simp] theorem State.raise_timer0 (s : State) (f : Fault) : (s.raise f).timer0 = s.timer0 := rfl
@[simp] theorem State.raise_timer1 (s : State) (f : Fault) : (s.raise f).timer1 = s.timer1 := rfl
@[simp] theorem State.raise_icr1 (s : State) (f : Fault) : (s.raise f).icr1 = s.icr1 := rfl
@[simp] theorem State.raise_temp1 (s : State) (f : Fault) : (s.raise f).temp1 = s.temp1 := rfl
@[simp] theorem State.raise_icpLevel (s : State) (f : Fault) : (s.raise f).icpLevel = s.icpLevel := rfl
@[simp] theorem State.raise_icpCount (s : State) (f : Fault) : (s.raise f).icpCount = s.icpCount := rfl
@[simp] theorem State.raise_irqInhibit (s : State) (f : Fault) : (s.raise f).irqInhibit = s.irqInhibit := rfl
@[simp] theorem State.raise_sleeping (s : State) (f : Fault) : (s.raise f).sleeping = s.sleeping := rfl
@[simp] theorem State.raise_halted (s : State) (f : Fault) : (s.raise f).halted = some f := rfl
@[simp] theorem State.raise_mem (s : State) (f : Fault) : (s.raise f).mem = s.mem := rfl
@[simp] theorem State.raise_prog (s : State) (f : Fault) : (s.raise f).prog = s.prog := rfl
@[simp] theorem State.raise_draws (s : State) (f : Fault) : (s.raise f).draws = s.draws := rfl
@[simp] theorem State.raise_reg (s : State) (f : Fault) (q : BitVec 5) : (s.raise f).reg q = s.reg q := rfl
@[simp] theorem State.raise_ram (s : State) (f : Fault) (x : Word) : (s.raise f).ram x = s.ram x := rfl
@[simp] theorem State.raise_flash (s : State) (f : Fault) (x : Nat) : (s.raise f).flash x = s.flash x := rfl
@[simp] theorem State.raise_flag (s : State) (f : Fault) (i : Nat) : (s.raise f).flag i = s.flag i := rfl
@[simp] theorem State.raise_progWord (s : State) (f : Fault) (x : Word) : (s.raise f).progWord x = s.progWord x := rfl

/-! ### setRam -/

@[simp] theorem State.setRam_regs (s : State) (a : Word) (v : Byte) : (s.setRam a v).regs = s.regs := rfl
@[simp] theorem State.setRam_pc (s : State) (a : Word) (v : Byte) : (s.setRam a v).pc = s.pc := rfl
@[simp] theorem State.setRam_sreg (s : State) (a : Word) (v : Byte) : (s.setRam a v).sreg = s.sreg := rfl
@[simp] theorem State.setRam_sp (s : State) (a : Word) (v : Byte) : (s.setRam a v).sp = s.sp := rfl
@[simp] theorem State.setRam_cycles (s : State) (a : Word) (v : Byte) : (s.setRam a v).cycles = s.cycles := rfl
@[simp] theorem State.setRam_smcr (s : State) (a : Word) (v : Byte) : (s.setRam a v).smcr = s.smcr := rfl
@[simp] theorem State.setRam_portB (s : State) (a : Word) (v : Byte) : (s.setRam a v).portB = s.portB := rfl
@[simp] theorem State.setRam_portC (s : State) (a : Word) (v : Byte) : (s.setRam a v).portC = s.portC := rfl
@[simp] theorem State.setRam_portD (s : State) (a : Word) (v : Byte) : (s.setRam a v).portD = s.portD := rfl
@[simp] theorem State.setRam_timer0 (s : State) (a : Word) (v : Byte) : (s.setRam a v).timer0 = s.timer0 := rfl
@[simp] theorem State.setRam_timer1 (s : State) (a : Word) (v : Byte) : (s.setRam a v).timer1 = s.timer1 := rfl
@[simp] theorem State.setRam_icr1 (s : State) (a : Word) (v : Byte) : (s.setRam a v).icr1 = s.icr1 := rfl
@[simp] theorem State.setRam_temp1 (s : State) (a : Word) (v : Byte) : (s.setRam a v).temp1 = s.temp1 := rfl
@[simp] theorem State.setRam_icpLevel (s : State) (a : Word) (v : Byte) : (s.setRam a v).icpLevel = s.icpLevel := rfl
@[simp] theorem State.setRam_icpCount (s : State) (a : Word) (v : Byte) : (s.setRam a v).icpCount = s.icpCount := rfl
@[simp] theorem State.setRam_irqInhibit (s : State) (a : Word) (v : Byte) : (s.setRam a v).irqInhibit = s.irqInhibit := rfl
@[simp] theorem State.setRam_sleeping (s : State) (a : Word) (v : Byte) : (s.setRam a v).sleeping = s.sleeping := rfl
@[simp] theorem State.setRam_halted (s : State) (a : Word) (v : Byte) : (s.setRam a v).halted = s.halted := rfl
@[simp] theorem State.setRam_mem (s : State) (a : Word) (v : Byte) : (s.setRam a v).mem = Memory.write s.mem a.toNat v := rfl
@[simp] theorem State.setRam_prog (s : State) (a : Word) (v : Byte) : (s.setRam a v).prog = s.prog := rfl
@[simp] theorem State.setRam_draws (s : State) (a : Word) (v : Byte) : (s.setRam a v).draws = s.draws := rfl
@[simp] theorem State.setRam_reg (s : State) (a : Word) (v : Byte) (q : BitVec 5) : (s.setRam a v).reg q = s.reg q := rfl
@[simp] theorem State.setRam_flash (s : State) (a : Word) (v : Byte) (x : Nat) : (s.setRam a v).flash x = s.flash x := rfl
@[simp] theorem State.setRam_flag (s : State) (a : Word) (v : Byte) (i : Nat) : (s.setRam a v).flag i = s.flag i := rfl
@[simp] theorem State.setRam_progWord (s : State) (a : Word) (v : Byte) (x : Word) : (s.setRam a v).progWord x = s.progWord x := rfl

/-! ### setFlash -/

@[simp] theorem State.setFlash_regs (s : State) (b : Nat) (v : Byte) : (s.setFlash b v).regs = s.regs := rfl
@[simp] theorem State.setFlash_pc (s : State) (b : Nat) (v : Byte) : (s.setFlash b v).pc = s.pc := rfl
@[simp] theorem State.setFlash_sreg (s : State) (b : Nat) (v : Byte) : (s.setFlash b v).sreg = s.sreg := rfl
@[simp] theorem State.setFlash_sp (s : State) (b : Nat) (v : Byte) : (s.setFlash b v).sp = s.sp := rfl
@[simp] theorem State.setFlash_cycles (s : State) (b : Nat) (v : Byte) : (s.setFlash b v).cycles = s.cycles := rfl
@[simp] theorem State.setFlash_smcr (s : State) (b : Nat) (v : Byte) : (s.setFlash b v).smcr = s.smcr := rfl
@[simp] theorem State.setFlash_portB (s : State) (b : Nat) (v : Byte) : (s.setFlash b v).portB = s.portB := rfl
@[simp] theorem State.setFlash_portC (s : State) (b : Nat) (v : Byte) : (s.setFlash b v).portC = s.portC := rfl
@[simp] theorem State.setFlash_portD (s : State) (b : Nat) (v : Byte) : (s.setFlash b v).portD = s.portD := rfl
@[simp] theorem State.setFlash_timer0 (s : State) (b : Nat) (v : Byte) : (s.setFlash b v).timer0 = s.timer0 := rfl
@[simp] theorem State.setFlash_timer1 (s : State) (b : Nat) (v : Byte) : (s.setFlash b v).timer1 = s.timer1 := rfl
@[simp] theorem State.setFlash_icr1 (s : State) (b : Nat) (v : Byte) : (s.setFlash b v).icr1 = s.icr1 := rfl
@[simp] theorem State.setFlash_temp1 (s : State) (b : Nat) (v : Byte) : (s.setFlash b v).temp1 = s.temp1 := rfl
@[simp] theorem State.setFlash_icpLevel (s : State) (b : Nat) (v : Byte) : (s.setFlash b v).icpLevel = s.icpLevel := rfl
@[simp] theorem State.setFlash_icpCount (s : State) (b : Nat) (v : Byte) : (s.setFlash b v).icpCount = s.icpCount := rfl
@[simp] theorem State.setFlash_irqInhibit (s : State) (b : Nat) (v : Byte) : (s.setFlash b v).irqInhibit = s.irqInhibit := rfl
@[simp] theorem State.setFlash_sleeping (s : State) (b : Nat) (v : Byte) : (s.setFlash b v).sleeping = s.sleeping := rfl
@[simp] theorem State.setFlash_halted (s : State) (b : Nat) (v : Byte) : (s.setFlash b v).halted = s.halted := rfl
@[simp] theorem State.setFlash_mem (s : State) (b : Nat) (v : Byte) : (s.setFlash b v).mem = s.mem := rfl
@[simp] theorem State.setFlash_prog (s : State) (b : Nat) (v : Byte) : (s.setFlash b v).prog = Memory.write s.prog b v := rfl
@[simp] theorem State.setFlash_draws (s : State) (b : Nat) (v : Byte) : (s.setFlash b v).draws = s.draws := rfl
@[simp] theorem State.setFlash_reg (s : State) (b : Nat) (v : Byte) (q : BitVec 5) : (s.setFlash b v).reg q = s.reg q := rfl
@[simp] theorem State.setFlash_ram (s : State) (b : Nat) (v : Byte) (x : Word) : (s.setFlash b v).ram x = s.ram x := rfl
@[simp] theorem State.setFlash_flag (s : State) (b : Nat) (v : Byte) (i : Nat) : (s.setFlash b v).flag i = s.flag i := rfl

/-! ### setPort: a port replaced by name -/

@[simp] theorem State.setPort_regs (s : State) (p : PortId) (v : Port) : (s.setPort p v).regs = s.regs := by cases p <;> rfl
@[simp] theorem State.setPort_pc (s : State) (p : PortId) (v : Port) : (s.setPort p v).pc = s.pc := by cases p <;> rfl
@[simp] theorem State.setPort_sreg (s : State) (p : PortId) (v : Port) : (s.setPort p v).sreg = s.sreg := by cases p <;> rfl
@[simp] theorem State.setPort_sp (s : State) (p : PortId) (v : Port) : (s.setPort p v).sp = s.sp := by cases p <;> rfl
@[simp] theorem State.setPort_cycles (s : State) (p : PortId) (v : Port) : (s.setPort p v).cycles = s.cycles := by cases p <;> rfl
@[simp] theorem State.setPort_smcr (s : State) (p : PortId) (v : Port) : (s.setPort p v).smcr = s.smcr := by cases p <;> rfl
@[simp] theorem State.setPort_timer0 (s : State) (p : PortId) (v : Port) : (s.setPort p v).timer0 = s.timer0 := by cases p <;> rfl
@[simp] theorem State.setPort_timer1 (s : State) (p : PortId) (v : Port) : (s.setPort p v).timer1 = s.timer1 := by cases p <;> rfl
@[simp] theorem State.setPort_icr1 (s : State) (p : PortId) (v : Port) : (s.setPort p v).icr1 = s.icr1 := by cases p <;> rfl
@[simp] theorem State.setPort_temp1 (s : State) (p : PortId) (v : Port) : (s.setPort p v).temp1 = s.temp1 := by cases p <;> rfl
@[simp] theorem State.setPort_icpLevel (s : State) (p : PortId) (v : Port) : (s.setPort p v).icpLevel = s.icpLevel := by cases p <;> rfl
@[simp] theorem State.setPort_icpCount (s : State) (p : PortId) (v : Port) : (s.setPort p v).icpCount = s.icpCount := by cases p <;> rfl
@[simp] theorem State.setPort_irqInhibit (s : State) (p : PortId) (v : Port) : (s.setPort p v).irqInhibit = s.irqInhibit := by cases p <;> rfl
@[simp] theorem State.setPort_sleeping (s : State) (p : PortId) (v : Port) : (s.setPort p v).sleeping = s.sleeping := by cases p <;> rfl
@[simp] theorem State.setPort_halted (s : State) (p : PortId) (v : Port) : (s.setPort p v).halted = s.halted := by cases p <;> rfl
@[simp] theorem State.setPort_mem (s : State) (p : PortId) (v : Port) : (s.setPort p v).mem = s.mem := by cases p <;> rfl
@[simp] theorem State.setPort_prog (s : State) (p : PortId) (v : Port) : (s.setPort p v).prog = s.prog := by cases p <;> rfl
@[simp] theorem State.setPort_draws (s : State) (p : PortId) (v : Port) : (s.setPort p v).draws = s.draws := by cases p <;> rfl
@[simp] theorem State.setPort_reg (s : State) (p : PortId) (v : Port) (q : BitVec 5) : (s.setPort p v).reg q = s.reg q := by cases p <;> rfl
@[simp] theorem State.setPort_ram (s : State) (p : PortId) (v : Port) (x : Word) : (s.setPort p v).ram x = s.ram x := by cases p <;> rfl
@[simp] theorem State.setPort_flash (s : State) (p : PortId) (v : Port) (x : Nat) : (s.setPort p v).flash x = s.flash x := by cases p <;> rfl
@[simp] theorem State.setPort_flag (s : State) (p : PortId) (v : Port) (i : Nat) : (s.setPort p v).flag i = s.flag i := by cases p <;> rfl
@[simp] theorem State.setPort_progWord (s : State) (p : PortId) (v : Port) (x : Word) : (s.setPort p v).progWord x = s.progWord x := by cases p <;> rfl
@[simp] theorem State.setPort_portOf_same (s : State) (p : PortId) (v : Port) : (s.setPort p v).portOf p = v := by
  cases p <;> rfl
@[simp] theorem State.setPort_portOf_ne (s : State) (p q : PortId) (v : Port) (h : q ≠ p) :
    (s.setPort p v).portOf q = s.portOf q := by cases p <;> cases q <;> first | rfl | exact absurd rfl h

/-! ### The same field through an update of another kind -/

@[simp] theorem State.setReg_reg (s : State) (d q : BitVec 5) (v : Byte) :
    (s.setReg d v).reg q = if q = d then v else s.reg q := by
  simp only [State.reg, State.setReg, Vector.get_eq_getElem, Vector.getElem_set]
  by_cases h : q = d
  · subst h; simp
  · have hn : d.toNat ≠ q.toNat := fun e => h (BitVec.eq_of_toNat_eq e.symm)
    simp [h, hn]
@[simp] theorem State.setSreg_flag (s : State) (v : Byte) (i : Nat) : (s.setSreg v).flag i = v.getLsbD i := rfl
@[simp] theorem State.raise_portOf (s : State) (f : Fault) (p : PortId) : (s.raise f).portOf p = s.portOf p := by
  cases p <;> rfl

/-! ### goto and fall, the ends of an instruction -/

@[simp] theorem State.goto_regs (s : State) (t : Word) (n : Nat) : (s.goto t n).regs = s.regs := rfl
@[simp] theorem State.goto_pc (s : State) (t : Word) (n : Nat) : (s.goto t n).pc = t := rfl
@[simp] theorem State.goto_sreg (s : State) (t : Word) (n : Nat) : (s.goto t n).sreg = s.sreg := rfl
@[simp] theorem State.goto_sp (s : State) (t : Word) (n : Nat) : (s.goto t n).sp = s.sp := rfl
@[simp] theorem State.goto_cycles (s : State) (t : Word) (n : Nat) : (s.goto t n).cycles = s.cycles + n := rfl
@[simp] theorem State.goto_smcr (s : State) (t : Word) (n : Nat) : (s.goto t n).smcr = s.smcr := rfl
@[simp] theorem State.goto_portB (s : State) (t : Word) (n : Nat) : (s.goto t n).portB = s.portB := rfl
@[simp] theorem State.goto_portC (s : State) (t : Word) (n : Nat) : (s.goto t n).portC = s.portC := rfl
@[simp] theorem State.goto_portD (s : State) (t : Word) (n : Nat) : (s.goto t n).portD = s.portD := rfl
@[simp] theorem State.goto_timer0 (s : State) (t : Word) (n : Nat) : (s.goto t n).timer0 = s.timer0 := rfl
@[simp] theorem State.goto_timer1 (s : State) (t : Word) (n : Nat) : (s.goto t n).timer1 = s.timer1 := rfl
@[simp] theorem State.goto_icr1 (s : State) (t : Word) (n : Nat) : (s.goto t n).icr1 = s.icr1 := rfl
@[simp] theorem State.goto_temp1 (s : State) (t : Word) (n : Nat) : (s.goto t n).temp1 = s.temp1 := rfl
@[simp] theorem State.goto_icpLevel (s : State) (t : Word) (n : Nat) : (s.goto t n).icpLevel = s.icpLevel := rfl
@[simp] theorem State.goto_icpCount (s : State) (t : Word) (n : Nat) : (s.goto t n).icpCount = s.icpCount := rfl
@[simp] theorem State.goto_irqInhibit (s : State) (t : Word) (n : Nat) : (s.goto t n).irqInhibit = s.irqInhibit := rfl
@[simp] theorem State.goto_sleeping (s : State) (t : Word) (n : Nat) : (s.goto t n).sleeping = s.sleeping := rfl
@[simp] theorem State.goto_halted (s : State) (t : Word) (n : Nat) : (s.goto t n).halted = s.halted := rfl
@[simp] theorem State.goto_mem (s : State) (t : Word) (n : Nat) : (s.goto t n).mem = s.mem := rfl
@[simp] theorem State.goto_prog (s : State) (t : Word) (n : Nat) : (s.goto t n).prog = s.prog := rfl
@[simp] theorem State.goto_draws (s : State) (t : Word) (n : Nat) : (s.goto t n).draws = s.draws := rfl
@[simp] theorem State.goto_reg (s : State) (t : Word) (n : Nat) (q : BitVec 5) : (s.goto t n).reg q = s.reg q := rfl
@[simp] theorem State.goto_ram (s : State) (t : Word) (n : Nat) (x : Word) : (s.goto t n).ram x = s.ram x := rfl
@[simp] theorem State.goto_flash (s : State) (t : Word) (n : Nat) (x : Nat) : (s.goto t n).flash x = s.flash x := rfl
@[simp] theorem State.goto_flag (s : State) (t : Word) (n : Nat) (i : Nat) : (s.goto t n).flag i = s.flag i := rfl
@[simp] theorem State.goto_progWord (s : State) (t : Word) (n : Nat) (x : Word) : (s.goto t n).progWord x = s.progWord x := rfl

@[simp] theorem State.fall_regs (s : State) (w : Word) (n : Nat) : (s.fall w n).regs = s.regs := rfl
@[simp] theorem State.fall_pc (s : State) (w : Word) (n : Nat) : (s.fall w n).pc = s.pc + w := rfl
@[simp] theorem State.fall_sreg (s : State) (w : Word) (n : Nat) : (s.fall w n).sreg = s.sreg := rfl
@[simp] theorem State.fall_sp (s : State) (w : Word) (n : Nat) : (s.fall w n).sp = s.sp := rfl
@[simp] theorem State.fall_cycles (s : State) (w : Word) (n : Nat) : (s.fall w n).cycles = s.cycles + n := rfl
@[simp] theorem State.fall_smcr (s : State) (w : Word) (n : Nat) : (s.fall w n).smcr = s.smcr := rfl
@[simp] theorem State.fall_portB (s : State) (w : Word) (n : Nat) : (s.fall w n).portB = s.portB := rfl
@[simp] theorem State.fall_portC (s : State) (w : Word) (n : Nat) : (s.fall w n).portC = s.portC := rfl
@[simp] theorem State.fall_portD (s : State) (w : Word) (n : Nat) : (s.fall w n).portD = s.portD := rfl
@[simp] theorem State.fall_timer0 (s : State) (w : Word) (n : Nat) : (s.fall w n).timer0 = s.timer0 := rfl
@[simp] theorem State.fall_timer1 (s : State) (w : Word) (n : Nat) : (s.fall w n).timer1 = s.timer1 := rfl
@[simp] theorem State.fall_icr1 (s : State) (w : Word) (n : Nat) : (s.fall w n).icr1 = s.icr1 := rfl
@[simp] theorem State.fall_temp1 (s : State) (w : Word) (n : Nat) : (s.fall w n).temp1 = s.temp1 := rfl
@[simp] theorem State.fall_icpLevel (s : State) (w : Word) (n : Nat) : (s.fall w n).icpLevel = s.icpLevel := rfl
@[simp] theorem State.fall_icpCount (s : State) (w : Word) (n : Nat) : (s.fall w n).icpCount = s.icpCount := rfl
@[simp] theorem State.fall_irqInhibit (s : State) (w : Word) (n : Nat) : (s.fall w n).irqInhibit = s.irqInhibit := rfl
@[simp] theorem State.fall_sleeping (s : State) (w : Word) (n : Nat) : (s.fall w n).sleeping = s.sleeping := rfl
@[simp] theorem State.fall_halted (s : State) (w : Word) (n : Nat) : (s.fall w n).halted = s.halted := rfl
@[simp] theorem State.fall_mem (s : State) (w : Word) (n : Nat) : (s.fall w n).mem = s.mem := rfl
@[simp] theorem State.fall_prog (s : State) (w : Word) (n : Nat) : (s.fall w n).prog = s.prog := rfl
@[simp] theorem State.fall_draws (s : State) (w : Word) (n : Nat) : (s.fall w n).draws = s.draws := rfl
@[simp] theorem State.fall_reg (s : State) (w : Word) (n : Nat) (q : BitVec 5) : (s.fall w n).reg q = s.reg q := rfl
@[simp] theorem State.fall_ram (s : State) (w : Word) (n : Nat) (x : Word) : (s.fall w n).ram x = s.ram x := rfl
@[simp] theorem State.fall_flash (s : State) (w : Word) (n : Nat) (x : Nat) : (s.fall w n).flash x = s.flash x := rfl
@[simp] theorem State.fall_flag (s : State) (w : Word) (n : Nat) (i : Nat) : (s.fall w n).flag i = s.flag i := rfl
@[simp] theorem State.fall_progWord (s : State) (w : Word) (n : Nat) (x : Word) : (s.fall w n).progWord x = s.progWord x := rfl

/-! ### setPair and setPtr -/

@[simp] theorem State.setPair_pc (s : State) (d : BitVec 5) (v : Word) : (s.setPair d v).pc = s.pc := rfl
@[simp] theorem State.setPtr_pc (s : State) (p : Ptr) (v : Word) : (s.setPtr p v).pc = s.pc := rfl
@[simp] theorem State.setPair_sreg (s : State) (d : BitVec 5) (v : Word) : (s.setPair d v).sreg = s.sreg := rfl
@[simp] theorem State.setPtr_sreg (s : State) (p : Ptr) (v : Word) : (s.setPtr p v).sreg = s.sreg := rfl
@[simp] theorem State.setPair_sp (s : State) (d : BitVec 5) (v : Word) : (s.setPair d v).sp = s.sp := rfl
@[simp] theorem State.setPtr_sp (s : State) (p : Ptr) (v : Word) : (s.setPtr p v).sp = s.sp := rfl
@[simp] theorem State.setPair_cycles (s : State) (d : BitVec 5) (v : Word) : (s.setPair d v).cycles = s.cycles := rfl
@[simp] theorem State.setPtr_cycles (s : State) (p : Ptr) (v : Word) : (s.setPtr p v).cycles = s.cycles := rfl
@[simp] theorem State.setPair_smcr (s : State) (d : BitVec 5) (v : Word) : (s.setPair d v).smcr = s.smcr := rfl
@[simp] theorem State.setPtr_smcr (s : State) (p : Ptr) (v : Word) : (s.setPtr p v).smcr = s.smcr := rfl
@[simp] theorem State.setPair_portB (s : State) (d : BitVec 5) (v : Word) : (s.setPair d v).portB = s.portB := rfl
@[simp] theorem State.setPtr_portB (s : State) (p : Ptr) (v : Word) : (s.setPtr p v).portB = s.portB := rfl
@[simp] theorem State.setPair_portC (s : State) (d : BitVec 5) (v : Word) : (s.setPair d v).portC = s.portC := rfl
@[simp] theorem State.setPtr_portC (s : State) (p : Ptr) (v : Word) : (s.setPtr p v).portC = s.portC := rfl
@[simp] theorem State.setPair_portD (s : State) (d : BitVec 5) (v : Word) : (s.setPair d v).portD = s.portD := rfl
@[simp] theorem State.setPtr_portD (s : State) (p : Ptr) (v : Word) : (s.setPtr p v).portD = s.portD := rfl
@[simp] theorem State.setPair_timer0 (s : State) (d : BitVec 5) (v : Word) : (s.setPair d v).timer0 = s.timer0 := rfl
@[simp] theorem State.setPtr_timer0 (s : State) (p : Ptr) (v : Word) : (s.setPtr p v).timer0 = s.timer0 := rfl
@[simp] theorem State.setPair_timer1 (s : State) (d : BitVec 5) (v : Word) : (s.setPair d v).timer1 = s.timer1 := rfl
@[simp] theorem State.setPtr_timer1 (s : State) (p : Ptr) (v : Word) : (s.setPtr p v).timer1 = s.timer1 := rfl
@[simp] theorem State.setPair_icr1 (s : State) (d : BitVec 5) (v : Word) : (s.setPair d v).icr1 = s.icr1 := rfl
@[simp] theorem State.setPtr_icr1 (s : State) (p : Ptr) (v : Word) : (s.setPtr p v).icr1 = s.icr1 := rfl
@[simp] theorem State.setPair_temp1 (s : State) (d : BitVec 5) (v : Word) : (s.setPair d v).temp1 = s.temp1 := rfl
@[simp] theorem State.setPtr_temp1 (s : State) (p : Ptr) (v : Word) : (s.setPtr p v).temp1 = s.temp1 := rfl
@[simp] theorem State.setPair_icpLevel (s : State) (d : BitVec 5) (v : Word) : (s.setPair d v).icpLevel = s.icpLevel := rfl
@[simp] theorem State.setPtr_icpLevel (s : State) (p : Ptr) (v : Word) : (s.setPtr p v).icpLevel = s.icpLevel := rfl
@[simp] theorem State.setPair_icpCount (s : State) (d : BitVec 5) (v : Word) : (s.setPair d v).icpCount = s.icpCount := rfl
@[simp] theorem State.setPtr_icpCount (s : State) (p : Ptr) (v : Word) : (s.setPtr p v).icpCount = s.icpCount := rfl
@[simp] theorem State.setPair_irqInhibit (s : State) (d : BitVec 5) (v : Word) : (s.setPair d v).irqInhibit = s.irqInhibit := rfl
@[simp] theorem State.setPtr_irqInhibit (s : State) (p : Ptr) (v : Word) : (s.setPtr p v).irqInhibit = s.irqInhibit := rfl
@[simp] theorem State.setPair_sleeping (s : State) (d : BitVec 5) (v : Word) : (s.setPair d v).sleeping = s.sleeping := rfl
@[simp] theorem State.setPtr_sleeping (s : State) (p : Ptr) (v : Word) : (s.setPtr p v).sleeping = s.sleeping := rfl
@[simp] theorem State.setPair_halted (s : State) (d : BitVec 5) (v : Word) : (s.setPair d v).halted = s.halted := rfl
@[simp] theorem State.setPtr_halted (s : State) (p : Ptr) (v : Word) : (s.setPtr p v).halted = s.halted := rfl
@[simp] theorem State.setPair_mem (s : State) (d : BitVec 5) (v : Word) : (s.setPair d v).mem = s.mem := rfl
@[simp] theorem State.setPtr_mem (s : State) (p : Ptr) (v : Word) : (s.setPtr p v).mem = s.mem := rfl
@[simp] theorem State.setPair_prog (s : State) (d : BitVec 5) (v : Word) : (s.setPair d v).prog = s.prog := rfl
@[simp] theorem State.setPtr_prog (s : State) (p : Ptr) (v : Word) : (s.setPtr p v).prog = s.prog := rfl
@[simp] theorem State.setPair_draws (s : State) (d : BitVec 5) (v : Word) : (s.setPair d v).draws = s.draws := rfl
@[simp] theorem State.setPtr_draws (s : State) (p : Ptr) (v : Word) : (s.setPtr p v).draws = s.draws := rfl
@[simp] theorem State.setPair_ram (s : State) (d : BitVec 5) (v : Word) (x : Word) : (s.setPair d v).ram x = s.ram x := rfl
@[simp] theorem State.setPtr_ram (s : State) (p : Ptr) (v : Word) (x : Word) : (s.setPtr p v).ram x = s.ram x := rfl
@[simp] theorem State.setPair_flash (s : State) (d : BitVec 5) (v : Word) (x : Nat) : (s.setPair d v).flash x = s.flash x := rfl
@[simp] theorem State.setPtr_flash (s : State) (p : Ptr) (v : Word) (x : Nat) : (s.setPtr p v).flash x = s.flash x := rfl
@[simp] theorem State.setPair_flag (s : State) (d : BitVec 5) (v : Word) (i : Nat) : (s.setPair d v).flag i = s.flag i := rfl
@[simp] theorem State.setPtr_flag (s : State) (p : Ptr) (v : Word) (i : Nat) : (s.setPtr p v).flag i = s.flag i := rfl
@[simp] theorem State.setPair_progWord (s : State) (d : BitVec 5) (v : Word) (x : Word) : (s.setPair d v).progWord x = s.progWord x := rfl
@[simp] theorem State.setPtr_progWord (s : State) (p : Ptr) (v : Word) (x : Word) : (s.setPtr p v).progWord x = s.progWord x := rfl
theorem State.setPair_reg (s : State) (d q : BitVec 5) (v : Word) :
    (s.setPair d v).reg q = if q = d + 1 then highByte v else if q = d then lowByte v else s.reg q := by
  simp [State.setPair]
theorem State.setPtr_reg (s : State) (p : Ptr) (q : BitVec 5) (v : Word) :
    (s.setPtr p v).reg q = if q = p.low + 1 then highByte v else if q = p.low then lowByte v else s.reg q :=
  State.setPair_reg s p.low q v
/-- A word is its two bytes. -/
theorem highByte_lowByte (v : Word) : highByte v ++ lowByte v = v := by
  apply BitVec.eq_of_getLsbD_eq
  intro i hi
  simp only [BitVec.getLsbD_append, BitVec.getLsbD_extractLsb']
  split
  · simp [*]
  · have h1 : i - 8 < 8 := by omega
    have h2 : 8 + (i - 8) = i := by omega
    simp [h1, h2]
@[simp] theorem highByte_append (a b : Byte) : highByte (a ++ b) = a := by
  apply BitVec.eq_of_getLsbD_eq
  intro i hi
  rw [BitVec.getLsbD_extractLsb', show (a ++ b : BitVec 16).getLsbD (8 + i) = _ from BitVec.getLsbD_append]
  simp [hi]
@[simp] theorem lowByte_append (a b : Byte) : lowByte (a ++ b) = b := by
  apply BitVec.eq_of_getLsbD_eq
  intro i hi
  rw [BitVec.getLsbD_extractLsb', show (a ++ b : BitVec 16).getLsbD (0 + i) = _ from BitVec.getLsbD_append]
  simp [hi]
/-- A pair reads back what was written to it. -/
@[simp] theorem State.setPair_pair (s : State) (d : BitVec 5) (v : Word) : (s.setPair d v).pair d = v := by
  have hd : d ≠ d + 1 := by bv_omega
  simp only [State.pair, State.setPair_reg, if_true, hd, if_false]
  exact highByte_lowByte v
/-- A pointer reads back what was written to it. -/
@[simp] theorem State.setPtr_ptr (s : State) (p : Ptr) (v : Word) : (s.setPtr p v).ptr p = v :=
  State.setPair_pair s p.low v

end Sys2Proof.Machine
end

