-- ==== Sys2Proof/Laws/Flags.lean ====
section
/-! SUPPORT. Laws/Flags.lean: the bits of SREG after each way of writing it, once each. -/

namespace Sys2Proof.Machine

/-- The bits of a packed SREG, lowest first. -/
theorem packSreg_bit (i t h s v n z c : Bool) (j : Nat) :
    (packSreg i t h s v n z c).getLsbD j = ([c, z, n, v, s, h, t, i] : List Bool).getD j false := by
  by_cases hj : j < 8
  · interval_cases j <;> revert i t h s v n z c <;> decide
  · rw [BitVec.getLsbD_of_ge _ j (by omega), List.getD_eq_default _ _ (by simp; omega)]

/-- Additions and subtractions: I and T kept, S = N xor V. -/
theorem arithSreg_bit (sr : Byte) (h v n z c : Bool) (j : Nat) :
    (arithSreg sr h v n z c).getLsbD j =
      ([c, z, n, v, n ^^ v, h, sr.getLsbD 6, sr.getLsbD 7] : List Bool).getD j false :=
  packSreg_bit ..

/-- ADIW, SBIW, COM and the shifts: I, T and H kept, S = N xor V. -/
theorem wordSreg_bit (sr : Byte) (v n z c : Bool) (j : Nat) :
    (wordSreg sr v n z c).getLsbD j =
      ([c, z, n, v, n ^^ v, sr.getLsbD 5, sr.getLsbD 6, sr.getLsbD 7] : List Bool).getD j false :=
  packSreg_bit ..

/-- The logic instructions, INC and DEC: I, T, H and C kept, S = N xor V. -/
theorem logicSreg_bit (sr : Byte) (v n z : Bool) (j : Nat) :
    (logicSreg sr v n z).getLsbD j =
      ([sr.getLsbD 0, z, n, v, n ^^ v, sr.getLsbD 5, sr.getLsbD 6, sr.getLsbD 7] : List Bool).getD j false :=
  packSreg_bit ..

/-- The multiplications: only Z and C are written. -/
theorem mulSreg_bit (sr : Byte) (z c : Bool) (j : Nat) :
    (mulSreg sr z c).getLsbD j = if j = 0 then c else if j = 1 then z else sr.getLsbD j := by
  simp only [mulSreg, getLsbD_setBit]
  by_cases h0 : j = 0
  · simp [h0]
  · by_cases h1 : j = 1 <;> simp [h0, h1]

/-- SREG.C as a number. -/
theorem State.carryIn_toNat (s : State) : s.carryIn.toNat = (s.flag bitC).toNat := by
  unfold State.carryIn
  cases s.flag bitC <;> rfl

end Sys2Proof.Machine
end

