-- ==== Sys2Proof/Laws/Io.lean ====
section
/-! SUPPORT. Laws/Io.lean: what reading and writing a block-owned register, and a timer's pin action, leave alone. -/

namespace Sys2Proof.Machine

/-! ### Pin actions write one PORT bit of one port (R482 60_exceptions.md) -/

@[simp] theorem State.pinAction_regs (s : State) (t : TimerId) (x : Channel) (a : PinAct) : (s.pinAction t x a).regs = s.regs :=
  State.setPort_regs ..
@[simp] theorem State.pinAction_pc (s : State) (t : TimerId) (x : Channel) (a : PinAct) : (s.pinAction t x a).pc = s.pc :=
  State.setPort_pc ..
@[simp] theorem State.pinAction_sreg (s : State) (t : TimerId) (x : Channel) (a : PinAct) : (s.pinAction t x a).sreg = s.sreg :=
  State.setPort_sreg ..
@[simp] theorem State.pinAction_sp (s : State) (t : TimerId) (x : Channel) (a : PinAct) : (s.pinAction t x a).sp = s.sp :=
  State.setPort_sp ..
@[simp] theorem State.pinAction_cycles (s : State) (t : TimerId) (x : Channel) (a : PinAct) : (s.pinAction t x a).cycles = s.cycles :=
  State.setPort_cycles ..
@[simp] theorem State.pinAction_smcr (s : State) (t : TimerId) (x : Channel) (a : PinAct) : (s.pinAction t x a).smcr = s.smcr :=
  State.setPort_smcr ..
@[simp] theorem State.pinAction_timer0 (s : State) (t : TimerId) (x : Channel) (a : PinAct) : (s.pinAction t x a).timer0 = s.timer0 :=
  State.setPort_timer0 ..
@[simp] theorem State.pinAction_timer1 (s : State) (t : TimerId) (x : Channel) (a : PinAct) : (s.pinAction t x a).timer1 = s.timer1 :=
  State.setPort_timer1 ..
@[simp] theorem State.pinAction_icr1 (s : State) (t : TimerId) (x : Channel) (a : PinAct) : (s.pinAction t x a).icr1 = s.icr1 :=
  State.setPort_icr1 ..
@[simp] theorem State.pinAction_temp1 (s : State) (t : TimerId) (x : Channel) (a : PinAct) : (s.pinAction t x a).temp1 = s.temp1 :=
  State.setPort_temp1 ..
@[simp] theorem State.pinAction_icpLevel (s : State) (t : TimerId) (x : Channel) (a : PinAct) : (s.pinAction t x a).icpLevel = s.icpLevel :=
  State.setPort_icpLevel ..
@[simp] theorem State.pinAction_icpCount (s : State) (t : TimerId) (x : Channel) (a : PinAct) : (s.pinAction t x a).icpCount = s.icpCount :=
  State.setPort_icpCount ..
@[simp] theorem State.pinAction_irqInhibit (s : State) (t : TimerId) (x : Channel) (a : PinAct) : (s.pinAction t x a).irqInhibit = s.irqInhibit :=
  State.setPort_irqInhibit ..
@[simp] theorem State.pinAction_sleeping (s : State) (t : TimerId) (x : Channel) (a : PinAct) : (s.pinAction t x a).sleeping = s.sleeping :=
  State.setPort_sleeping ..
@[simp] theorem State.pinAction_halted (s : State) (t : TimerId) (x : Channel) (a : PinAct) : (s.pinAction t x a).halted = s.halted :=
  State.setPort_halted ..
@[simp] theorem State.pinAction_mem (s : State) (t : TimerId) (x : Channel) (a : PinAct) : (s.pinAction t x a).mem = s.mem :=
  State.setPort_mem ..
@[simp] theorem State.pinAction_prog (s : State) (t : TimerId) (x : Channel) (a : PinAct) : (s.pinAction t x a).prog = s.prog :=
  State.setPort_prog ..
@[simp] theorem State.pinAction_draws (s : State) (t : TimerId) (x : Channel) (a : PinAct) : (s.pinAction t x a).draws = s.draws :=
  State.setPort_draws ..
@[simp] theorem State.pinAction_portC (s : State) (t : TimerId) (x : Channel) (a : PinAct) : (s.pinAction t x a).portC = s.portC := by
  cases t <;> cases x <;> rfl
@[simp] theorem Port.act_ddr (p : Port) (n : Fin 8) (a : PinAct) : (p.act n a).ddr = p.ddr := by
  unfold Port.act; split
  · cases a <;> rfl
  · rfl
@[simp] theorem Port.act_ext (p : Port) (n : Fin 8) (a : PinAct) : (p.act n a).ext = p.ext := by
  unfold Port.act; split
  · cases a <;> rfl
  · rfl
theorem State.pinAction_portOf_ddr (s : State) (t : TimerId) (x : Channel) (a : PinAct) (p : PortId) :
    ((s.pinAction t x a).portOf p).ddr = (s.portOf p).ddr := by
  cases t <;> cases x <;> cases p <;> simp [State.pinAction, outputPin, State.setPort, State.portOf]
theorem State.pinAction_portOf_ext (s : State) (t : TimerId) (x : Channel) (a : PinAct) (p : PortId) :
    ((s.pinAction t x a).portOf p).ext = (s.portOf p).ext := by
  cases t <;> cases x <;> cases p <;> simp [State.pinAction, outputPin, State.setPort, State.portOf]

/-! ### A register read changes TEMP1 and the draw counter at most (R113, R118 20_memory.md) -/

@[simp] theorem State.readIo_regs (s : State) (r : IoReg) : (s.readIo r).2.regs = s.regs := by cases r <;> rfl
@[simp] theorem State.readIo_pc (s : State) (r : IoReg) : (s.readIo r).2.pc = s.pc := by cases r <;> rfl
@[simp] theorem State.readIo_sreg (s : State) (r : IoReg) : (s.readIo r).2.sreg = s.sreg := by cases r <;> rfl
@[simp] theorem State.readIo_sp (s : State) (r : IoReg) : (s.readIo r).2.sp = s.sp := by cases r <;> rfl
@[simp] theorem State.readIo_cycles (s : State) (r : IoReg) : (s.readIo r).2.cycles = s.cycles := by cases r <;> rfl
@[simp] theorem State.readIo_smcr (s : State) (r : IoReg) : (s.readIo r).2.smcr = s.smcr := by cases r <;> rfl
@[simp] theorem State.readIo_portB (s : State) (r : IoReg) : (s.readIo r).2.portB = s.portB := by cases r <;> rfl
@[simp] theorem State.readIo_portC (s : State) (r : IoReg) : (s.readIo r).2.portC = s.portC := by cases r <;> rfl
@[simp] theorem State.readIo_portD (s : State) (r : IoReg) : (s.readIo r).2.portD = s.portD := by cases r <;> rfl
@[simp] theorem State.readIo_timer0 (s : State) (r : IoReg) : (s.readIo r).2.timer0 = s.timer0 := by cases r <;> rfl
@[simp] theorem State.readIo_timer1 (s : State) (r : IoReg) : (s.readIo r).2.timer1 = s.timer1 := by cases r <;> rfl
@[simp] theorem State.readIo_icr1 (s : State) (r : IoReg) : (s.readIo r).2.icr1 = s.icr1 := by cases r <;> rfl
@[simp] theorem State.readIo_icpLevel (s : State) (r : IoReg) : (s.readIo r).2.icpLevel = s.icpLevel := by cases r <;> rfl
@[simp] theorem State.readIo_icpCount (s : State) (r : IoReg) : (s.readIo r).2.icpCount = s.icpCount := by cases r <;> rfl
@[simp] theorem State.readIo_irqInhibit (s : State) (r : IoReg) : (s.readIo r).2.irqInhibit = s.irqInhibit := by cases r <;> rfl
@[simp] theorem State.readIo_sleeping (s : State) (r : IoReg) : (s.readIo r).2.sleeping = s.sleeping := by cases r <;> rfl
@[simp] theorem State.readIo_halted (s : State) (r : IoReg) : (s.readIo r).2.halted = s.halted := by cases r <;> rfl
@[simp] theorem State.readIo_mem (s : State) (r : IoReg) : (s.readIo r).2.mem = s.mem := by cases r <;> rfl
@[simp] theorem State.readIo_prog (s : State) (r : IoReg) : (s.readIo r).2.prog = s.prog := by cases r <;> rfl

/-! ### What no register write changes (R114, R115, R118) -/

@[simp] theorem State.writeIo_regs (s : State) (r : IoReg) (v : Byte) : (s.writeIo r v).regs = s.regs := by
  cases r <;> simp [State.writeIo, State.force0, State.force1]
@[simp] theorem State.writeIo_pc (s : State) (r : IoReg) (v : Byte) : (s.writeIo r v).pc = s.pc := by
  cases r <;> simp [State.writeIo, State.force0, State.force1]
@[simp] theorem State.writeIo_cycles (s : State) (r : IoReg) (v : Byte) : (s.writeIo r v).cycles = s.cycles := by
  cases r <;> simp [State.writeIo, State.force0, State.force1]
@[simp] theorem State.writeIo_icpLevel (s : State) (r : IoReg) (v : Byte) : (s.writeIo r v).icpLevel = s.icpLevel := by
  cases r <;> simp [State.writeIo, State.force0, State.force1]
@[simp] theorem State.writeIo_icpCount (s : State) (r : IoReg) (v : Byte) : (s.writeIo r v).icpCount = s.icpCount := by
  cases r <;> simp [State.writeIo, State.force0, State.force1]
@[simp] theorem State.writeIo_irqInhibit (s : State) (r : IoReg) (v : Byte) : (s.writeIo r v).irqInhibit = s.irqInhibit := by
  cases r <;> simp [State.writeIo, State.force0, State.force1]
@[simp] theorem State.writeIo_sleeping (s : State) (r : IoReg) (v : Byte) : (s.writeIo r v).sleeping = s.sleeping := by
  cases r <;> simp [State.writeIo, State.force0, State.force1]
@[simp] theorem State.writeIo_halted (s : State) (r : IoReg) (v : Byte) : (s.writeIo r v).halted = s.halted := by
  cases r <;> simp [State.writeIo, State.force0, State.force1]
@[simp] theorem State.writeIo_mem (s : State) (r : IoReg) (v : Byte) : (s.writeIo r v).mem = s.mem := by
  cases r <;> simp [State.writeIo, State.force0, State.force1]
@[simp] theorem State.writeIo_prog (s : State) (r : IoReg) (v : Byte) : (s.writeIo r v).prog = s.prog := by
  cases r <;> simp [State.writeIo, State.force0, State.force1]
@[simp] theorem State.writeIo_draws (s : State) (r : IoReg) (v : Byte) : (s.writeIo r v).draws = s.draws := by
  cases r <;> simp [State.writeIo, State.force0, State.force1]
theorem State.setPort_portOf (s : State) (p q : PortId) (v : Port) :
    (s.setPort p v).portOf q = if q = p then v else s.portOf q := by
  cases p <;> cases q <;> rfl
theorem State.writeIo_portOf_ext (s : State) (r : IoReg) (v : Byte) (p : PortId) :
    ((s.writeIo r v).portOf p).ext = (s.portOf p).ext := by
  cases r <;> simp [State.writeIo, State.force0, State.force1, State.pinAction_portOf_ext, State.setPort_portOf] <;>
    first
    | (split <;> simp_all [Port.toggle])
    | (cases p <;> rfl)

/-! ### The data space -/

@[simp] theorem State.readAt_regs (s : State) (a : Word) : (s.readAt a).2.regs = s.regs := by unfold State.readAt; split <;> simp
@[simp] theorem State.readAt_pc (s : State) (a : Word) : (s.readAt a).2.pc = s.pc := by unfold State.readAt; split <;> simp
@[simp] theorem State.readAt_sreg (s : State) (a : Word) : (s.readAt a).2.sreg = s.sreg := by unfold State.readAt; split <;> simp
@[simp] theorem State.readAt_sp (s : State) (a : Word) : (s.readAt a).2.sp = s.sp := by unfold State.readAt; split <;> simp
@[simp] theorem State.readAt_cycles (s : State) (a : Word) : (s.readAt a).2.cycles = s.cycles := by unfold State.readAt; split <;> simp
@[simp] theorem State.readAt_smcr (s : State) (a : Word) : (s.readAt a).2.smcr = s.smcr := by unfold State.readAt; split <;> simp
@[simp] theorem State.readAt_portB (s : State) (a : Word) : (s.readAt a).2.portB = s.portB := by unfold State.readAt; split <;> simp
@[simp] theorem State.readAt_portC (s : State) (a : Word) : (s.readAt a).2.portC = s.portC := by unfold State.readAt; split <;> simp
@[simp] theorem State.readAt_portD (s : State) (a : Word) : (s.readAt a).2.portD = s.portD := by unfold State.readAt; split <;> simp
@[simp] theorem State.readAt_timer0 (s : State) (a : Word) : (s.readAt a).2.timer0 = s.timer0 := by unfold State.readAt; split <;> simp
@[simp] theorem State.readAt_timer1 (s : State) (a : Word) : (s.readAt a).2.timer1 = s.timer1 := by unfold State.readAt; split <;> simp
@[simp] theorem State.readAt_icr1 (s : State) (a : Word) : (s.readAt a).2.icr1 = s.icr1 := by unfold State.readAt; split <;> simp
@[simp] theorem State.readAt_icpLevel (s : State) (a : Word) : (s.readAt a).2.icpLevel = s.icpLevel := by unfold State.readAt; split <;> simp
@[simp] theorem State.readAt_icpCount (s : State) (a : Word) : (s.readAt a).2.icpCount = s.icpCount := by unfold State.readAt; split <;> simp
@[simp] theorem State.readAt_irqInhibit (s : State) (a : Word) : (s.readAt a).2.irqInhibit = s.irqInhibit := by unfold State.readAt; split <;> simp
@[simp] theorem State.readAt_sleeping (s : State) (a : Word) : (s.readAt a).2.sleeping = s.sleeping := by unfold State.readAt; split <;> simp
@[simp] theorem State.readAt_halted (s : State) (a : Word) : (s.readAt a).2.halted = s.halted := by unfold State.readAt; split <;> simp
@[simp] theorem State.readAt_mem (s : State) (a : Word) : (s.readAt a).2.mem = s.mem := by unfold State.readAt; split <;> simp
@[simp] theorem State.readAt_prog (s : State) (a : Word) : (s.readAt a).2.prog = s.prog := by unfold State.readAt; split <;> simp
@[simp] theorem State.writeAt_pc (s : State) (a : Word) (v : Byte) : (s.writeAt a v).pc = s.pc := by unfold State.writeAt; split <;> simp
@[simp] theorem State.writeAt_cycles (s : State) (a : Word) (v : Byte) : (s.writeAt a v).cycles = s.cycles := by unfold State.writeAt; split <;> simp
@[simp] theorem State.writeAt_icpLevel (s : State) (a : Word) (v : Byte) : (s.writeAt a v).icpLevel = s.icpLevel := by unfold State.writeAt; split <;> simp
@[simp] theorem State.writeAt_icpCount (s : State) (a : Word) (v : Byte) : (s.writeAt a v).icpCount = s.icpCount := by unfold State.writeAt; split <;> simp
@[simp] theorem State.writeAt_irqInhibit (s : State) (a : Word) (v : Byte) : (s.writeAt a v).irqInhibit = s.irqInhibit := by unfold State.writeAt; split <;> simp
@[simp] theorem State.writeAt_sleeping (s : State) (a : Word) (v : Byte) : (s.writeAt a v).sleeping = s.sleeping := by unfold State.writeAt; split <;> simp
@[simp] theorem State.writeAt_halted (s : State) (a : Word) (v : Byte) : (s.writeAt a v).halted = s.halted := by unfold State.writeAt; split <;> simp
@[simp] theorem State.writeAt_prog (s : State) (a : Word) (v : Byte) : (s.writeAt a v).prog = s.prog := by unfold State.writeAt; split <;> simp
@[simp] theorem State.writeAt_draws (s : State) (a : Word) (v : Byte) : (s.writeAt a v).draws = s.draws := by unfold State.writeAt; split <;> simp

end Sys2Proof.Machine
end

