-- ==== Sys2Proof/Laws/Ops.lean ====
section
/-! SUPPORT. Laws/Ops.lean: what each shared operation can do, said once. -/

namespace Sys2Proof.Machine

/-! ### The data space -/

theorem State.setRam_ram_ne (s : State) {a b : Word} (h : b ≠ a) (v : Byte) : (s.setRam a v).ram b = s.ram b :=
  Memory.read_write_ne s.mem (fun e => h (BitVec.eq_of_toNat_eq e)) v

/-- A stored byte reads back, where data memory is in canonical form. -/
theorem State.setRam_ram_same (s : State) (h : Memory.wf s.mem = true) (a : Word) (v : Byte) : (s.setRam a v).ram a = v :=
  Memory.read_write_same (lo := 0) h a.toNat v

theorem State.memRead_valid (s : State) {a : Word} (h : dataValid a = true) (k : Byte → State → State) :
    s.memRead a k = k (s.readAt a).1 (s.readAt a).2 := by simp [State.memRead, h]

theorem State.memRead_invalid (s : State) {a : Word} (h : dataValid a = false) (k : Byte → State → State) :
    s.memRead a k = s.raise (.dataAddressOutOfRange a) := by simp [State.memRead, h]

theorem State.memWrite_valid (s : State) {a : Word} (h : dataValid a = true) (v : Byte) (k : State → State) :
    s.memWrite a v k = k (s.writeAt a v) := by simp [State.memWrite, h]

theorem State.memWrite_invalid (s : State) {a : Word} (h : dataValid a = false) (v : Byte) (k : State → State) :
    s.memWrite a v k = s.raise (.dataAddressOutOfRange a) := by simp [State.memWrite, h]

theorem State.readAt_cell (s : State) {a : Word} (h : route a = .cell) : s.readAt a = (s.ram a, s) := by
  simp [State.readAt, h]

theorem State.readAt_register (s : State) {a : Word} {d : BitVec 5} (h : route a = .register d) :
    s.readAt a = (s.reg d, s) := by simp [State.readAt, h]

theorem State.readAt_io (s : State) {a : Word} {r : IoReg} (h : route a = .io r) : s.readAt a = s.readIo r := by
  simp [State.readAt, h]

theorem State.writeAt_cell (s : State) {a : Word} (h : route a = .cell) (v : Byte) : s.writeAt a v = s.setRam a v := by
  simp [State.writeAt, h]

theorem State.writeAt_register (s : State) {a : Word} {d : BitVec 5} (h : route a = .register d) (v : Byte) :
    s.writeAt a v = s.setReg d v := by simp [State.writeAt, h]

theorem State.writeAt_io (s : State) {a : Word} {r : IoReg} (h : route a = .io r) (v : Byte) :
    s.writeAt a v = s.writeIo r v := by simp [State.writeAt, h]

/-- A store changes no other byte of memory. -/
theorem State.writeAt_ram_ne (s : State) {a b : Word} (h : b ≠ a) (v : Byte) : (s.writeAt a v).ram b = s.ram b := by
  unfold State.writeAt
  split
  · simp
  · simp [State.ram]
  · exact State.setRam_ram_ne s h v

/-! ### The stack, where it lies in SRAM or plain cells -/

theorem State.push8_cell (s : State) (v : Byte) (k : State → State) (hv : dataValid s.sp = true) (h : route s.sp = .cell) :
    s.push8 v k = k ((s.setRam s.sp v).setSp (s.sp - 1)) := by
  rw [State.push8, State.memWrite_valid s hv, State.writeAt_cell s h]; rfl

theorem State.pop8_cell (s : State) (k : Byte → State → State) (hv : dataValid (s.sp + 1) = true)
    (h : route (s.sp + 1) = .cell) : s.pop8 k = k (s.ram (s.sp + 1)) (s.setSp (s.sp + 1)) := by
  rw [State.pop8, State.memRead_valid s hv, State.readAt_cell s h]

theorem State.push8_invalid (s : State) (v : Byte) (k : State → State) (hv : dataValid s.sp = false) :
    s.push8 v k = s.raise (.dataAddressOutOfRange s.sp) := State.memWrite_invalid s hv v _

theorem State.pop8_invalid (s : State) (k : Byte → State → State) (hv : dataValid (s.sp + 1) = false) :
    s.pop8 k = s.raise (.dataAddressOutOfRange (s.sp + 1)) := State.memRead_invalid s hv _

/-- `PushReturn` with both bytes in SRAM or plain cells. -/
theorem State.pushReturn_cell (s : State) (ret : Word) (k : State → State) (hv : dataValid s.sp = true)
    (hv' : dataValid (s.sp - 1) = true) (h : route s.sp = .cell) (h' : route (s.sp - 1) = .cell) :
    s.pushReturn ret k =
      k ((((s.setRam s.sp (lowByte ret)).setSp (s.sp - 1)).setRam (s.sp - 1) (highByte ret)).setSp (s.sp - 1 - 1)) := by
  rw [State.pushReturn, State.push8_cell s _ _ hv h,
    State.push8_cell ((s.setRam s.sp (lowByte ret)).setSp (s.sp - 1)) _ _ hv' h']
  rfl

/-- `PopReturn` with both bytes in SRAM or plain cells. -/
theorem State.popReturn_cell (s : State) (k : Word → State → State) (hv : dataValid (s.sp + 1) = true)
    (hv' : dataValid (s.sp + 1 + 1) = true) (h : route (s.sp + 1) = .cell) (h' : route (s.sp + 1 + 1) = .cell) :
    s.popReturn k = k (s.ram (s.sp + 1) ++ s.ram (s.sp + 1 + 1)) (s.setSp (s.sp + 1 + 1)) := by
  rw [State.popReturn, State.pop8_cell s _ hv h, State.pop8_cell (s.setSp (s.sp + 1)) _ hv' h']
  rfl

/-! ### Program memory and skips -/

theorem State.progByte_valid (s : State) {b : Word} (h : b.toNat < Config.pmBytes) (k : Byte → State → State) :
    s.progByte b k = k (s.flash b.toNat) s := by simp [State.progByte, h]

theorem State.progByte_invalid (s : State) {b : Word} (h : ¬ b.toNat < Config.pmBytes) (k : Byte → State → State) :
    s.progByte b k = s.raise (.programReadOutOfRange b) := by simp [State.progByte, h]

theorem State.skipNext_word (s : State) {w : Word} (h : s.progWord (s.pc + 1) = some w) :
    s.skipNext = s.goto (s.pc + 1 + BitVec.ofNat 16 (wordLength w)) (1 + wordLength w) := by rw [State.skipNext, h]

theorem State.skipNext_none (s : State) (h : s.progWord (s.pc + 1) = none) :
    s.skipNext = s.raise (.fetchOutOfRange (s.pc + 1)) := by rw [State.skipNext, h]

/-! ### The clearing of a source's flag -/

theorem State.clearIrqFlag_not_pending (s : State) (v : IrqSource) : (s.clearIrqFlag v).pending v = false := by
  cases v <;> simp [State.clearIrqFlag, State.pending, IrqSource.timer, State.tifrOf, State.timskOf, IrqSource.bit,
    getLsbD_setBit, icfBit, tovBit, ocfBit, -BitVec.getLsbD_eq_getElem]

end Sys2Proof.Machine
end

