-- ==== Sys2Proof/Laws/Peripherals.lean ====
section
/-! SUPPORT. Laws/Peripherals.lean: peripheral time leaves the CPU's state, data memory, program memory, every direction
register and every injected level alone (R443, R451, R462 60_exceptions.md; R503 70_reset_and_hazards.md). -/

namespace Sys2Proof.Machine

@[simp] theorem State.tickPins_regs {n : Nat} (s : State) (i : TimerId) (t : Timer n) (m : WaveMode n) (c : BitVec n) :
    (s.tickPins i t m c).regs = s.regs := by simp [State.tickPins]
@[simp] theorem State.tick0_regs (s : State) : s.tick0.regs = s.regs := by unfold State.tick0; split <;> simp
@[simp] theorem State.tick1_regs (s : State) : s.tick1.regs = s.regs := by unfold State.tick1; split <;> simp
@[simp] theorem State.clock0_regs (s : State) (l : Level) : (s.clock0 l).regs = s.regs := by unfold State.clock0; split <;> simp
@[simp] theorem State.clock1_regs (s : State) (l : Level) : (s.clock1 l).regs = s.regs := by unfold State.clock1; split <;> simp
@[simp] theorem State.inputCapture_regs (s : State) (l : Level) : (s.inputCapture l).regs = s.regs := rfl
@[simp] theorem State.drawn_regs (s : State) : s.drawn.regs = s.regs := rfl
@[simp] theorem State.advanceCycle_regs (s : State) : s.advanceCycle.regs = s.regs := by
  unfold State.advanceCycle; dsimp only; split <;> simp
@[simp] theorem State.advance_regs (s : State) (k : Nat) : (s.advance k).regs = s.regs := by
  induction k generalizing s with
  | zero => rfl
  | succ k ih => unfold State.advance; split <;> simp [ih]

@[simp] theorem State.tickPins_pc {n : Nat} (s : State) (i : TimerId) (t : Timer n) (m : WaveMode n) (c : BitVec n) :
    (s.tickPins i t m c).pc = s.pc := by simp [State.tickPins]
@[simp] theorem State.tick0_pc (s : State) : s.tick0.pc = s.pc := by unfold State.tick0; split <;> simp
@[simp] theorem State.tick1_pc (s : State) : s.tick1.pc = s.pc := by unfold State.tick1; split <;> simp
@[simp] theorem State.clock0_pc (s : State) (l : Level) : (s.clock0 l).pc = s.pc := by unfold State.clock0; split <;> simp
@[simp] theorem State.clock1_pc (s : State) (l : Level) : (s.clock1 l).pc = s.pc := by unfold State.clock1; split <;> simp
@[simp] theorem State.inputCapture_pc (s : State) (l : Level) : (s.inputCapture l).pc = s.pc := rfl
@[simp] theorem State.drawn_pc (s : State) : s.drawn.pc = s.pc := rfl
@[simp] theorem State.advanceCycle_pc (s : State) : s.advanceCycle.pc = s.pc := by
  unfold State.advanceCycle; dsimp only; split <;> simp
@[simp] theorem State.advance_pc (s : State) (k : Nat) : (s.advance k).pc = s.pc := by
  induction k generalizing s with
  | zero => rfl
  | succ k ih => unfold State.advance; split <;> simp [ih]

@[simp] theorem State.tickPins_sreg {n : Nat} (s : State) (i : TimerId) (t : Timer n) (m : WaveMode n) (c : BitVec n) :
    (s.tickPins i t m c).sreg = s.sreg := by simp [State.tickPins]
@[simp] theorem State.tick0_sreg (s : State) : s.tick0.sreg = s.sreg := by unfold State.tick0; split <;> simp
@[simp] theorem State.tick1_sreg (s : State) : s.tick1.sreg = s.sreg := by unfold State.tick1; split <;> simp
@[simp] theorem State.clock0_sreg (s : State) (l : Level) : (s.clock0 l).sreg = s.sreg := by unfold State.clock0; split <;> simp
@[simp] theorem State.clock1_sreg (s : State) (l : Level) : (s.clock1 l).sreg = s.sreg := by unfold State.clock1; split <;> simp
@[simp] theorem State.inputCapture_sreg (s : State) (l : Level) : (s.inputCapture l).sreg = s.sreg := rfl
@[simp] theorem State.drawn_sreg (s : State) : s.drawn.sreg = s.sreg := rfl
@[simp] theorem State.advanceCycle_sreg (s : State) : s.advanceCycle.sreg = s.sreg := by
  unfold State.advanceCycle; dsimp only; split <;> simp
@[simp] theorem State.advance_sreg (s : State) (k : Nat) : (s.advance k).sreg = s.sreg := by
  induction k generalizing s with
  | zero => rfl
  | succ k ih => unfold State.advance; split <;> simp [ih]

@[simp] theorem State.tickPins_sp {n : Nat} (s : State) (i : TimerId) (t : Timer n) (m : WaveMode n) (c : BitVec n) :
    (s.tickPins i t m c).sp = s.sp := by simp [State.tickPins]
@[simp] theorem State.tick0_sp (s : State) : s.tick0.sp = s.sp := by unfold State.tick0; split <;> simp
@[simp] theorem State.tick1_sp (s : State) : s.tick1.sp = s.sp := by unfold State.tick1; split <;> simp
@[simp] theorem State.clock0_sp (s : State) (l : Level) : (s.clock0 l).sp = s.sp := by unfold State.clock0; split <;> simp
@[simp] theorem State.clock1_sp (s : State) (l : Level) : (s.clock1 l).sp = s.sp := by unfold State.clock1; split <;> simp
@[simp] theorem State.inputCapture_sp (s : State) (l : Level) : (s.inputCapture l).sp = s.sp := rfl
@[simp] theorem State.drawn_sp (s : State) : s.drawn.sp = s.sp := rfl
@[simp] theorem State.advanceCycle_sp (s : State) : s.advanceCycle.sp = s.sp := by
  unfold State.advanceCycle; dsimp only; split <;> simp
@[simp] theorem State.advance_sp (s : State) (k : Nat) : (s.advance k).sp = s.sp := by
  induction k generalizing s with
  | zero => rfl
  | succ k ih => unfold State.advance; split <;> simp [ih]

@[simp] theorem State.tickPins_cycles {n : Nat} (s : State) (i : TimerId) (t : Timer n) (m : WaveMode n) (c : BitVec n) :
    (s.tickPins i t m c).cycles = s.cycles := by simp [State.tickPins]
@[simp] theorem State.tick0_cycles (s : State) : s.tick0.cycles = s.cycles := by unfold State.tick0; split <;> simp
@[simp] theorem State.tick1_cycles (s : State) : s.tick1.cycles = s.cycles := by unfold State.tick1; split <;> simp
@[simp] theorem State.clock0_cycles (s : State) (l : Level) : (s.clock0 l).cycles = s.cycles := by unfold State.clock0; split <;> simp
@[simp] theorem State.clock1_cycles (s : State) (l : Level) : (s.clock1 l).cycles = s.cycles := by unfold State.clock1; split <;> simp
@[simp] theorem State.inputCapture_cycles (s : State) (l : Level) : (s.inputCapture l).cycles = s.cycles := rfl
@[simp] theorem State.drawn_cycles (s : State) : s.drawn.cycles = s.cycles := rfl
@[simp] theorem State.advanceCycle_cycles (s : State) : s.advanceCycle.cycles = s.cycles := by
  unfold State.advanceCycle; dsimp only; split <;> simp
@[simp] theorem State.advance_cycles (s : State) (k : Nat) : (s.advance k).cycles = s.cycles := by
  induction k generalizing s with
  | zero => rfl
  | succ k ih => unfold State.advance; split <;> simp [ih]

@[simp] theorem State.tickPins_smcr {n : Nat} (s : State) (i : TimerId) (t : Timer n) (m : WaveMode n) (c : BitVec n) :
    (s.tickPins i t m c).smcr = s.smcr := by simp [State.tickPins]
@[simp] theorem State.tick0_smcr (s : State) : s.tick0.smcr = s.smcr := by unfold State.tick0; split <;> simp
@[simp] theorem State.tick1_smcr (s : State) : s.tick1.smcr = s.smcr := by unfold State.tick1; split <;> simp
@[simp] theorem State.clock0_smcr (s : State) (l : Level) : (s.clock0 l).smcr = s.smcr := by unfold State.clock0; split <;> simp
@[simp] theorem State.clock1_smcr (s : State) (l : Level) : (s.clock1 l).smcr = s.smcr := by unfold State.clock1; split <;> simp
@[simp] theorem State.inputCapture_smcr (s : State) (l : Level) : (s.inputCapture l).smcr = s.smcr := rfl
@[simp] theorem State.drawn_smcr (s : State) : s.drawn.smcr = s.smcr := rfl
@[simp] theorem State.advanceCycle_smcr (s : State) : s.advanceCycle.smcr = s.smcr := by
  unfold State.advanceCycle; dsimp only; split <;> simp
@[simp] theorem State.advance_smcr (s : State) (k : Nat) : (s.advance k).smcr = s.smcr := by
  induction k generalizing s with
  | zero => rfl
  | succ k ih => unfold State.advance; split <;> simp [ih]

@[simp] theorem State.tickPins_portC {n : Nat} (s : State) (i : TimerId) (t : Timer n) (m : WaveMode n) (c : BitVec n) :
    (s.tickPins i t m c).portC = s.portC := by simp [State.tickPins]
@[simp] theorem State.tick0_portC (s : State) : s.tick0.portC = s.portC := by unfold State.tick0; split <;> simp
@[simp] theorem State.tick1_portC (s : State) : s.tick1.portC = s.portC := by unfold State.tick1; split <;> simp
@[simp] theorem State.clock0_portC (s : State) (l : Level) : (s.clock0 l).portC = s.portC := by unfold State.clock0; split <;> simp
@[simp] theorem State.clock1_portC (s : State) (l : Level) : (s.clock1 l).portC = s.portC := by unfold State.clock1; split <;> simp
@[simp] theorem State.inputCapture_portC (s : State) (l : Level) : (s.inputCapture l).portC = s.portC := rfl
@[simp] theorem State.drawn_portC (s : State) : s.drawn.portC = s.portC := rfl
@[simp] theorem State.advanceCycle_portC (s : State) : s.advanceCycle.portC = s.portC := by
  unfold State.advanceCycle; dsimp only; split <;> simp
@[simp] theorem State.advance_portC (s : State) (k : Nat) : (s.advance k).portC = s.portC := by
  induction k generalizing s with
  | zero => rfl
  | succ k ih => unfold State.advance; split <;> simp [ih]

@[simp] theorem State.tickPins_temp1 {n : Nat} (s : State) (i : TimerId) (t : Timer n) (m : WaveMode n) (c : BitVec n) :
    (s.tickPins i t m c).temp1 = s.temp1 := by simp [State.tickPins]
@[simp] theorem State.tick0_temp1 (s : State) : s.tick0.temp1 = s.temp1 := by unfold State.tick0; split <;> simp
@[simp] theorem State.tick1_temp1 (s : State) : s.tick1.temp1 = s.temp1 := by unfold State.tick1; split <;> simp
@[simp] theorem State.clock0_temp1 (s : State) (l : Level) : (s.clock0 l).temp1 = s.temp1 := by unfold State.clock0; split <;> simp
@[simp] theorem State.clock1_temp1 (s : State) (l : Level) : (s.clock1 l).temp1 = s.temp1 := by unfold State.clock1; split <;> simp
@[simp] theorem State.inputCapture_temp1 (s : State) (l : Level) : (s.inputCapture l).temp1 = s.temp1 := rfl
@[simp] theorem State.drawn_temp1 (s : State) : s.drawn.temp1 = s.temp1 := rfl
@[simp] theorem State.advanceCycle_temp1 (s : State) : s.advanceCycle.temp1 = s.temp1 := by
  unfold State.advanceCycle; dsimp only; split <;> simp
@[simp] theorem State.advance_temp1 (s : State) (k : Nat) : (s.advance k).temp1 = s.temp1 := by
  induction k generalizing s with
  | zero => rfl
  | succ k ih => unfold State.advance; split <;> simp [ih]

@[simp] theorem State.tickPins_irqInhibit {n : Nat} (s : State) (i : TimerId) (t : Timer n) (m : WaveMode n) (c : BitVec n) :
    (s.tickPins i t m c).irqInhibit = s.irqInhibit := by simp [State.tickPins]
@[simp] theorem State.tick0_irqInhibit (s : State) : s.tick0.irqInhibit = s.irqInhibit := by unfold State.tick0; split <;> simp
@[simp] theorem State.tick1_irqInhibit (s : State) : s.tick1.irqInhibit = s.irqInhibit := by unfold State.tick1; split <;> simp
@[simp] theorem State.clock0_irqInhibit (s : State) (l : Level) : (s.clock0 l).irqInhibit = s.irqInhibit := by unfold State.clock0; split <;> simp
@[simp] theorem State.clock1_irqInhibit (s : State) (l : Level) : (s.clock1 l).irqInhibit = s.irqInhibit := by unfold State.clock1; split <;> simp
@[simp] theorem State.inputCapture_irqInhibit (s : State) (l : Level) : (s.inputCapture l).irqInhibit = s.irqInhibit := rfl
@[simp] theorem State.drawn_irqInhibit (s : State) : s.drawn.irqInhibit = s.irqInhibit := rfl
@[simp] theorem State.advanceCycle_irqInhibit (s : State) : s.advanceCycle.irqInhibit = s.irqInhibit := by
  unfold State.advanceCycle; dsimp only; split <;> simp
@[simp] theorem State.advance_irqInhibit (s : State) (k : Nat) : (s.advance k).irqInhibit = s.irqInhibit := by
  induction k generalizing s with
  | zero => rfl
  | succ k ih => unfold State.advance; split <;> simp [ih]

@[simp] theorem State.tickPins_sleeping {n : Nat} (s : State) (i : TimerId) (t : Timer n) (m : WaveMode n) (c : BitVec n) :
    (s.tickPins i t m c).sleeping = s.sleeping := by simp [State.tickPins]
@[simp] theorem State.tick0_sleeping (s : State) : s.tick0.sleeping = s.sleeping := by unfold State.tick0; split <;> simp
@[simp] theorem State.tick1_sleeping (s : State) : s.tick1.sleeping = s.sleeping := by unfold State.tick1; split <;> simp
@[simp] theorem State.clock0_sleeping (s : State) (l : Level) : (s.clock0 l).sleeping = s.sleeping := by unfold State.clock0; split <;> simp
@[simp] theorem State.clock1_sleeping (s : State) (l : Level) : (s.clock1 l).sleeping = s.sleeping := by unfold State.clock1; split <;> simp
@[simp] theorem State.inputCapture_sleeping (s : State) (l : Level) : (s.inputCapture l).sleeping = s.sleeping := rfl
@[simp] theorem State.drawn_sleeping (s : State) : s.drawn.sleeping = s.sleeping := rfl
@[simp] theorem State.advanceCycle_sleeping (s : State) : s.advanceCycle.sleeping = s.sleeping := by
  unfold State.advanceCycle; dsimp only; split <;> simp
@[simp] theorem State.advance_sleeping (s : State) (k : Nat) : (s.advance k).sleeping = s.sleeping := by
  induction k generalizing s with
  | zero => rfl
  | succ k ih => unfold State.advance; split <;> simp [ih]

@[simp] theorem State.tickPins_mem {n : Nat} (s : State) (i : TimerId) (t : Timer n) (m : WaveMode n) (c : BitVec n) :
    (s.tickPins i t m c).mem = s.mem := by simp [State.tickPins]
@[simp] theorem State.tick0_mem (s : State) : s.tick0.mem = s.mem := by unfold State.tick0; split <;> simp
@[simp] theorem State.tick1_mem (s : State) : s.tick1.mem = s.mem := by unfold State.tick1; split <;> simp
@[simp] theorem State.clock0_mem (s : State) (l : Level) : (s.clock0 l).mem = s.mem := by unfold State.clock0; split <;> simp
@[simp] theorem State.clock1_mem (s : State) (l : Level) : (s.clock1 l).mem = s.mem := by unfold State.clock1; split <;> simp
@[simp] theorem State.inputCapture_mem (s : State) (l : Level) : (s.inputCapture l).mem = s.mem := rfl
@[simp] theorem State.drawn_mem (s : State) : s.drawn.mem = s.mem := rfl
@[simp] theorem State.advanceCycle_mem (s : State) : s.advanceCycle.mem = s.mem := by
  unfold State.advanceCycle; dsimp only; split <;> simp
@[simp] theorem State.advance_mem (s : State) (k : Nat) : (s.advance k).mem = s.mem := by
  induction k generalizing s with
  | zero => rfl
  | succ k ih => unfold State.advance; split <;> simp [ih]

@[simp] theorem State.tickPins_prog {n : Nat} (s : State) (i : TimerId) (t : Timer n) (m : WaveMode n) (c : BitVec n) :
    (s.tickPins i t m c).prog = s.prog := by simp [State.tickPins]
@[simp] theorem State.tick0_prog (s : State) : s.tick0.prog = s.prog := by unfold State.tick0; split <;> simp
@[simp] theorem State.tick1_prog (s : State) : s.tick1.prog = s.prog := by unfold State.tick1; split <;> simp
@[simp] theorem State.clock0_prog (s : State) (l : Level) : (s.clock0 l).prog = s.prog := by unfold State.clock0; split <;> simp
@[simp] theorem State.clock1_prog (s : State) (l : Level) : (s.clock1 l).prog = s.prog := by unfold State.clock1; split <;> simp
@[simp] theorem State.inputCapture_prog (s : State) (l : Level) : (s.inputCapture l).prog = s.prog := rfl
@[simp] theorem State.drawn_prog (s : State) : s.drawn.prog = s.prog := rfl
@[simp] theorem State.advanceCycle_prog (s : State) : s.advanceCycle.prog = s.prog := by
  unfold State.advanceCycle; dsimp only; split <;> simp
@[simp] theorem State.advance_prog (s : State) (k : Nat) : (s.advance k).prog = s.prog := by
  induction k generalizing s with
  | zero => rfl
  | succ k ih => unfold State.advance; split <;> simp [ih]

/-! ### Direction registers and injected levels -/

theorem State.tickPins_portOf_ddr {n : Nat} (s : State) (i : TimerId) (t : Timer n) (m : WaveMode n) (c : BitVec n) (p : PortId) :
    ((s.tickPins i t m c).portOf p).ddr = (s.portOf p).ddr := by simp [State.tickPins, State.pinAction_portOf_ddr]
theorem State.tick0_portOf_ddr (s : State) (p : PortId) : (s.tick0.portOf p).ddr = (s.portOf p).ddr := by
  unfold State.tick0; split
  · simp
  · rw [State.tickPins_portOf_ddr]; cases p <;> rfl
theorem State.tick1_portOf_ddr (s : State) (p : PortId) : (s.tick1.portOf p).ddr = (s.portOf p).ddr := by
  unfold State.tick1; split
  · simp
  · rw [State.tickPins_portOf_ddr]; cases p <;> rfl
theorem State.clock0_portOf_ddr (s : State) (l : Level) (p : PortId) : ((s.clock0 l).portOf p).ddr = (s.portOf p).ddr := by
  unfold State.clock0; split
  · rw [State.tick0_portOf_ddr]; cases p <;> rfl
  · cases p <;> rfl
theorem State.clock1_portOf_ddr (s : State) (l : Level) (p : PortId) : ((s.clock1 l).portOf p).ddr = (s.portOf p).ddr := by
  unfold State.clock1; split
  · rw [State.tick1_portOf_ddr]; cases p <;> rfl
  · cases p <;> rfl
theorem State.advanceCycle_portOf_ddr (s : State) (p : PortId) : (s.advanceCycle.portOf p).ddr = (s.portOf p).ddr := by
  unfold State.advanceCycle; dsimp only; split
  · rw [State.clock0_portOf_ddr]; cases p <;> rfl
  · rw [State.clock1_portOf_ddr, State.clock0_portOf_ddr]; cases p <;> rfl
theorem State.advance_portOf_ddr (s : State) (k : Nat) (p : PortId) : ((s.advance k).portOf p).ddr = (s.portOf p).ddr := by
  induction k generalizing s with
  | zero => rfl
  | succ k ih => unfold State.advance; split <;> simp [ih, State.advanceCycle_portOf_ddr]

theorem State.tickPins_portOf_ext {n : Nat} (s : State) (i : TimerId) (t : Timer n) (m : WaveMode n) (c : BitVec n) (p : PortId) :
    ((s.tickPins i t m c).portOf p).ext = (s.portOf p).ext := by simp [State.tickPins, State.pinAction_portOf_ext]
theorem State.tick0_portOf_ext (s : State) (p : PortId) : (s.tick0.portOf p).ext = (s.portOf p).ext := by
  unfold State.tick0; split
  · simp
  · rw [State.tickPins_portOf_ext]; cases p <;> rfl
theorem State.tick1_portOf_ext (s : State) (p : PortId) : (s.tick1.portOf p).ext = (s.portOf p).ext := by
  unfold State.tick1; split
  · simp
  · rw [State.tickPins_portOf_ext]; cases p <;> rfl
theorem State.clock0_portOf_ext (s : State) (l : Level) (p : PortId) : ((s.clock0 l).portOf p).ext = (s.portOf p).ext := by
  unfold State.clock0; split
  · rw [State.tick0_portOf_ext]; cases p <;> rfl
  · cases p <;> rfl
theorem State.clock1_portOf_ext (s : State) (l : Level) (p : PortId) : ((s.clock1 l).portOf p).ext = (s.portOf p).ext := by
  unfold State.clock1; split
  · rw [State.tick1_portOf_ext]; cases p <;> rfl
  · cases p <;> rfl
theorem State.advanceCycle_portOf_ext (s : State) (p : PortId) : (s.advanceCycle.portOf p).ext = (s.portOf p).ext := by
  unfold State.advanceCycle; dsimp only; split
  · rw [State.clock0_portOf_ext]; cases p <;> rfl
  · rw [State.clock1_portOf_ext, State.clock0_portOf_ext]; cases p <;> rfl
theorem State.advance_portOf_ext (s : State) (k : Nat) (p : PortId) : ((s.advance k).portOf p).ext = (s.portOf p).ext := by
  induction k generalizing s with
  | zero => rfl
  | succ k ih => unfold State.advance; split <;> simp [ih, State.advanceCycle_portOf_ext]

end Sys2Proof.Machine
end

