-- ==== Sys2Proof/Laws/Run.lean ====
section
/-! SUPPORT. Laws/Run.lean: what a load, a store and a skip answer, what a fetch gives, and everything a step can do. -/

namespace Sys2Proof.Machine

/-! ### Loads, stores and skips -/

theorem State.loadByte_valid (s : State) (d : BitVec 5) {a : Word} (h : dataValid a = true) (words : Word) (cost : Nat) :
    s.loadByte d a words cost = ((s.readAt a).2.setReg d (s.readAt a).1).fall words cost := State.memRead_valid s h _

theorem State.loadByte_invalid (s : State) (d : BitVec 5) {a : Word} (h : dataValid a = false) (words : Word) (cost : Nat) :
    s.loadByte d a words cost = s.raise (.dataAddressOutOfRange a) := State.memRead_invalid s h _

theorem State.loadUpdate_valid (s : State) (d : BitVec 5) {a : Word} (h : dataValid a = true) (p : Ptr) (p' : Word)
    (cost : Nat) :
    s.loadUpdate d a p p' cost = (((s.readAt a).2.setReg d (s.readAt a).1).setPtr p p').fall 1 cost :=
  State.memRead_valid s h _

theorem State.loadUpdate_invalid (s : State) (d : BitVec 5) {a : Word} (h : dataValid a = false) (p : Ptr) (p' : Word)
    (cost : Nat) : s.loadUpdate d a p p' cost = s.raise (.dataAddressOutOfRange a) := State.memRead_invalid s h _

theorem State.storeByte_valid (s : State) {a : Word} (h : dataValid a = true) (v : Byte) (words : Word) (cost : Nat) :
    s.storeByte a v words cost = (s.writeAt a v).fall words cost := State.memWrite_valid s h v _

theorem State.storeByte_invalid (s : State) {a : Word} (h : dataValid a = false) (v : Byte) (words : Word) (cost : Nat) :
    s.storeByte a v words cost = s.raise (.dataAddressOutOfRange a) := State.memWrite_invalid s h v _

theorem State.storeUpdate_valid (s : State) {a : Word} (h : dataValid a = true) (v : Byte) (p : Ptr) (p' : Word)
    (cost : Nat) : s.storeUpdate a v p p' cost = ((s.writeAt a v).setPtr p p').fall 1 cost := State.memWrite_valid s h v _

theorem State.storeUpdate_invalid (s : State) {a : Word} (h : dataValid a = false) (v : Byte) (p : Ptr) (p' : Word)
    (cost : Nat) : s.storeUpdate a v p p' cost = s.raise (.dataAddressOutOfRange a) := State.memWrite_invalid s h v _

/-- Everything a skip instruction with condition `c` can do. -/
theorem State.skipIf_cases (s : State) (c : Bool) :
    (c = false ∧ s.skipIf c = s.fall 1 1) ∨
      (c = true ∧ s.progWord (s.pc + 1) = none ∧ s.skipIf c = s.raise (.fetchOutOfRange (s.pc + 1))) ∨
      (∃ w, c = true ∧ s.progWord (s.pc + 1) = some w ∧
        s.skipIf c = s.goto (s.pc + 1 + BitVec.ofNat 16 (wordLength w)) (1 + wordLength w)) := by
  cases c with
  | false => exact .inl ⟨rfl, rfl⟩
  | true =>
    cases h : s.progWord (s.pc + 1) with
    | none => exact .inr (.inl ⟨rfl, rfl, State.skipNext_none s h⟩)
    | some w => exact .inr (.inr ⟨w, rfl, rfl, State.skipNext_word s h⟩)

/-! ### Fetch and decode -/

/-- A fetch that gives an instruction read its words from program memory and decoded them. -/
theorem State.fetch_instr {s : State} {i : Instr} (h : s.fetch = .instr i) :
    ∃ w w2, s.progWord s.pc = some w ∧ (isTwoWord w = true → s.progWord (s.pc + 1) = some w2) ∧
      decode w w2 = .ok i := by
  have decoded : ∀ {w w2 : Word}, s.decodeAt w w2 = .instr i → decode w w2 = .ok i := by
    intro w w2 hd
    unfold State.decodeAt at hd
    split at hd
    · rename_i j hj; cases hd; exact hj
    · cases hd
  unfold State.fetch at h
  split at h
  · cases h
  · rename_i w hw
    split at h
    · split at h
      · cases h
      · rename_i w2 hw2
        exact ⟨w, w2, hw, fun _ => hw2, decoded h⟩
    · rename_i hn
      exact ⟨w, 0, hw, fun ht => absurd ht hn, decoded h⟩

/-- The converse. -/
theorem State.fetch_of_decode {s : State} {w w2 : Word} {i : Instr} (hw : s.progWord s.pc = some w)
    (hw2 : isTwoWord w = true → s.progWord (s.pc + 1) = some w2) (h : decode w w2 = .ok i) : s.fetch = .instr i := by
  unfold State.fetch
  rw [hw]
  dsimp only
  cases ht : isTwoWord w with
  | true => rw [hw2 ht]; simp only [State.decodeAt, h, if_true]
  | false => rw [decode_one_word ht] at h; simp only [State.decodeAt, h, if_false, Bool.false_eq_true]

/-! ### The step -/

/-- Every meaning answers a next state. -/
theorem exec_next (i : Instr) (s : State) : ∃ t, exec i s = .next t := by cases i <;> exact ⟨_, rfl⟩

/-- Everything a step can do (R502). -/
theorem step_cases {s t : State} (h : step s = .next t) :
    (s.halted.isSome = true ∧ t = s) ∨
    (s.halted = none ∧ s.sleeping = true ∧ ∃ v, s.wakeSource = some v ∧ t = s.settle (s.interruptEntry v 8)) ∨
    (s.halted = none ∧ s.sleeping = true ∧ s.wakeSource = none ∧ t = s.sleepStep) ∨
    (s.halted = none ∧ s.sleeping = false ∧ ∃ v, s.dueSource = some v ∧ t = s.settle (s.interruptEntry v 4)) ∨
    (s.halted = none ∧ s.sleeping = false ∧ s.dueSource = none ∧
      ∃ f, (s.setIrqInhibit false).fetch = .stop f ∧ t = (s.setIrqInhibit false).raise f) ∨
    (s.halted = none ∧ s.sleeping = false ∧ s.dueSource = none ∧
      ∃ i u, (s.setIrqInhibit false).fetch = .instr i ∧ exec i (s.setIrqInhibit false) = .next u ∧ t = s.settle u) := by
  unfold step State.stepOnce at h
  split at h
  · rename_i hh; cases h; exact .inl ⟨hh, rfl⟩
  · rename_i hh
    have hn : s.halted = none := by simpa using hh
    split at h
    · rename_i hs
      split at h
      · rename_i v hv; cases h; exact .inr (.inl ⟨hn, hs, v, hv, rfl⟩)
      · rename_i hv; cases h; exact .inr (.inr (.inl ⟨hn, hs, hv, rfl⟩))
    · rename_i hs
      have hs : s.sleeping = false := by simpa using hs
      split at h
      · rename_i v hv; cases h; exact .inr (.inr (.inr (.inl ⟨hn, hs, v, hv, rfl⟩)))
      · rename_i hv
        unfold State.instructionStep at h
        split at h
        · rename_i f hf; cases h; exact .inr (.inr (.inr (.inr (.inl ⟨hn, hs, hv, f, hf, rfl⟩))))
        · rename_i i hf
          obtain ⟨u, hu⟩ := exec_next i (s.setIrqInhibit false)
          rw [hu] at h
          cases h
          exact .inr (.inr (.inr (.inr (.inr ⟨hn, hs, hv, i, u, hf, hu, rfl⟩))))

end Sys2Proof.Machine
end

