-- ==== Sys2Proof/Machine/Assembly.lean ====
section
/-! DEFINITION. Machine/Assembly.lean: the assembly text of an instruction and the displacement an assembler computes (R180
30_encoding.md; `lo8` and `hi8` of an expression are lowByte and highByte of Word.lean). Nothing in the block reads them. -/

namespace Sys2Proof

/-- A register operand, `r0` to `r31`. -/
def asmReg (d : BitVec 5) : String := "r" ++ toString d.toNat

/-- A register pair of MOVW, ADIW and SBIW, the high register first. -/
def asmPair (d : BitVec 5) : String := asmReg (d + 1) ++ ":" ++ asmReg d

/-- A mnemonic with one operand. -/
def asm1 (m a : String) : String := m ++ " " ++ a

/-- A mnemonic with two operands, the destination first. -/
def asm2 (m a b : String) : String := m ++ " " ++ a ++ ", " ++ b

/-- Two register operands. -/
def asmRR (m : String) (d r : BitVec 5) : String := asm2 m (asmReg d) (asmReg r)

/-- A register and a number. -/
def asmRK (m : String) (d : BitVec 5) (k : Nat) : String := asm2 m (asmReg d) (toString k)

/-- Two numbers. -/
def asmNN (m : String) (a b : Nat) : String := asm2 m (toString a) (toString b)

/-- A literal relative operand, `.+n` or `.-n` in bytes, for a displacement in words. -/
def asmRel (k : Int) : String := if 0 ≤ k then ".+" ++ toString (2 * k.toNat) else ".-" ++ toString (2 * (-k).toNat)

/-- The displacement the assembler computes for a target label, `target - (pc + 1)` in words. -/
def asmDisplacement (n : Nat) (target pc : Word) : BitVec n := (target - (pc + 1)).setWidth n

/-- The assembly text of an instruction. -/
def Instr.assembly : Instr → String
  | .add d r => asmRR "ADD" d r
  | .adc d r => asmRR "ADC" d r
  | .adiw d k => asm2 "ADIW" (asmPair d) (toString k.toNat)
  | .sub d r => asmRR "SUB" d r
  | .subi d k => asmRK "SUBI" d k.toNat
  | .sbc d r => asmRR "SBC" d r
  | .sbci d k => asmRK "SBCI" d k.toNat
  | .sbiw d k => asm2 "SBIW" (asmPair d) (toString k.toNat)
  | .and d r => asmRR "AND" d r
  | .andi d k => asmRK "ANDI" d k.toNat
  | .or d r => asmRR "OR" d r
  | .ori d k => asmRK "ORI" d k.toNat
  | .eor d r => asmRR "EOR" d r
  | .com d => asm1 "COM" (asmReg d)
  | .neg d => asm1 "NEG" (asmReg d)
  | .inc d => asm1 "INC" (asmReg d)
  | .dec d => asm1 "DEC" (asmReg d)
  | .mul d r => asmRR "MUL" d r
  | .muls d r => asmRR "MULS" d r
  | .mulsu d r => asmRR "MULSU" d r
  | .fmul d r => asmRR "FMUL" d r
  | .fmuls d r => asmRR "FMULS" d r
  | .fmulsu d r => asmRR "FMULSU" d r
  | .rjmp k => asm1 "RJMP" (asmRel k.toInt)
  | .ijmp => "IJMP"
  | .jmp k => asm1 "JMP" (toString k.toNat)
  | .rcall k => asm1 "RCALL" (asmRel k.toInt)
  | .icall => "ICALL"
  | .call k => asm1 "CALL" (toString k.toNat)
  | .ret => "RET"
  | .reti => "RETI"
  | .cpse d r => asmRR "CPSE" d r
  | .cp d r => asmRR "CP" d r
  | .cpc d r => asmRR "CPC" d r
  | .cpi d k => asmRK "CPI" d k.toNat
  | .sbrc r b => asmRK "SBRC" r b.toNat
  | .sbrs r b => asmRK "SBRS" r b.toNat
  | .sbic a b => asmNN "SBIC" a.toNat b.toNat
  | .sbis a b => asmNN "SBIS" a.toNat b.toNat
  | .brbs s k => asm2 "BRBS" (toString s.toNat) (asmRel k.toInt)
  | .brbc s k => asm2 "BRBC" (toString s.toNat) (asmRel k.toInt)
  | .mov d r => asmRR "MOV" d r
  | .movw d r => asm2 "MOVW" (asmPair d) (asmPair r)
  | .ldi d k => asmRK "LDI" d k.toNat
  | .ldX d => asm2 "LD" (asmReg d) "X"
  | .ldXInc d => asm2 "LD" (asmReg d) "X+"
  | .ldXDec d => asm2 "LD" (asmReg d) "-X"
  | .ldYInc d => asm2 "LD" (asmReg d) "Y+"
  | .ldYDec d => asm2 "LD" (asmReg d) "-Y"
  | .lddY d q => asm2 "LDD" (asmReg d) ("Y+" ++ toString q.toNat)
  | .ldZInc d => asm2 "LD" (asmReg d) "Z+"
  | .ldZDec d => asm2 "LD" (asmReg d) "-Z"
  | .lddZ d q => asm2 "LDD" (asmReg d) ("Z+" ++ toString q.toNat)
  | .lds d k => asmRK "LDS" d k.toNat
  | .stX r => asm2 "ST" "X" (asmReg r)
  | .stXInc r => asm2 "ST" "X+" (asmReg r)
  | .stXDec r => asm2 "ST" "-X" (asmReg r)
  | .stYInc r => asm2 "ST" "Y+" (asmReg r)
  | .stYDec r => asm2 "ST" "-Y" (asmReg r)
  | .stdY q r => asm2 "STD" ("Y+" ++ toString q.toNat) (asmReg r)
  | .stZInc r => asm2 "ST" "Z+" (asmReg r)
  | .stZDec r => asm2 "ST" "-Z" (asmReg r)
  | .stdZ q r => asm2 "STD" ("Z+" ++ toString q.toNat) (asmReg r)
  | .sts k r => asm2 "STS" (toString k.toNat) (asmReg r)
  | .lpmR0 => "LPM"
  | .lpmZ d => asm2 "LPM" (asmReg d) "Z"
  | .lpmZInc d => asm2 "LPM" (asmReg d) "Z+"
  | .inIo d a => asmRK "IN" d a.toNat
  | .outIo a r => asm2 "OUT" (toString a.toNat) (asmReg r)
  | .push r => asm1 "PUSH" (asmReg r)
  | .pop d => asm1 "POP" (asmReg d)
  | .sbi a b => asmNN "SBI" a.toNat b.toNat
  | .cbi a b => asmNN "CBI" a.toNat b.toNat
  | .lsr d => asm1 "LSR" (asmReg d)
  | .ror d => asm1 "ROR" (asmReg d)
  | .asr d => asm1 "ASR" (asmReg d)
  | .swap d => asm1 "SWAP" (asmReg d)
  | .bset s => asm1 "BSET" (toString s.toNat)
  | .bclr s => asm1 "BCLR" (toString s.toNat)
  | .bst d b => asmRK "BST" d b.toNat
  | .bld d b => asmRK "BLD" d b.toNat
  | .nop => "NOP"
  | .sleep => "SLEEP"
  | .wdr => "WDR"
  | .brk => "BREAK"

end Sys2Proof
end

