-- ==== Sys2Proof/Tests/Slice0.lean ====
section
/-! SUPPORT. Tests/Slice0.lean: the author's tests. Words are written out bit by bit from the encodings of R185
(30_encoding.md); expected results are the vectors of 95_test_vectors.md or worked by hand from the rule named; then a
witness for every statement that has hypotheses. -/

namespace Sys2Proof.Tests

open Sys2Proof Sys2Proof.Machine Sys2Proof.Claim

/-! ### Well-formedness: each check refuses an ill-formed term and admits the term beside it -/

theorem test_wf_upper : Instr.wellFormed (.subi 15 1) = false ∧ Instr.wellFormed (.subi 16 1) = true := by decide
theorem test_wf_upper_second : Instr.wellFormed (.muls 16 15) = false ∧ Instr.wellFormed (.muls 16 31) = true := by decide
theorem test_wf_mid_low : Instr.wellFormed (.mulsu 15 16) = false ∧ Instr.wellFormed (.mulsu 16 23) = true := by decide
theorem test_wf_mid_high : Instr.wellFormed (.fmul 16 24) = false ∧ Instr.wellFormed (.fmul 16 23) = true := by decide
theorem test_wf_pair_top : Instr.wellFormed (.adiw 25 0) = false ∧ Instr.wellFormed (.adiw 24 63) = true := by decide
theorem test_wf_pair_low : Instr.wellFormed (.sbiw 22 0) = false ∧ Instr.wellFormed (.sbiw 30 0) = true := by decide
theorem test_wf_even_first : Instr.wellFormed (.movw 1 0) = false ∧ Instr.wellFormed (.movw 2 0) = true := by decide
theorem test_wf_even_second : Instr.wellFormed (.movw 0 31) = false ∧ Instr.wellFormed (.movw 0 30) = true := by decide
theorem test_wf_half_x : Instr.wellFormed (.ldXInc 27) = false ∧ Instr.wellFormed (.ldXInc 28) = true := by decide
theorem test_wf_half_y : Instr.wellFormed (.stYDec 28) = false ∧ Instr.wellFormed (.stYDec 27) = true := by decide
theorem test_wf_half_z : Instr.wellFormed (.lpmZInc 31) = false ∧ Instr.wellFormed (.lpmZInc 29) = true := by decide
theorem test_wf_jump_target : Instr.wellFormed (.jmp 0x10000) = false ∧ Instr.wellFormed (.jmp 0xFFFF) = true := by decide
theorem test_wf_call_target : Instr.wellFormed (.call 0x3F0000) = false ∧ Instr.wellFormed (.call 0) = true := by decide

/-! ### Decoding: one word per constructor, its bits in the order of the row's encoding, and the encoding back -/

theorem test_decode_add : decode 0b0000110101101101 0 = .ok (.add 22 13) ∧
    encode (.add 22 13) = [0b0000110101101101] := by decide
theorem test_decode_adc : decode 0b0001110101101101 0 = .ok (.adc 22 13) ∧
    encode (.adc 22 13) = [0b0001110101101101] := by decide
theorem test_decode_adiw : decode 0b1001011010010110 0 = .ok (.adiw 26 38) ∧
    encode (.adiw 26 38) = [0b1001011010010110] := by decide
theorem test_decode_sub : decode 0b0001100101101101 0 = .ok (.sub 22 13) ∧
    encode (.sub 22 13) = [0b0001100101101101] := by decide
theorem test_decode_subi : decode 0b0101101001100101 0 = .ok (.subi 22 165) ∧
    encode (.subi 22 165) = [0b0101101001100101] := by decide
theorem test_decode_sbc : decode 0b0000100101101101 0 = .ok (.sbc 22 13) ∧
    encode (.sbc 22 13) = [0b0000100101101101] := by decide
theorem test_decode_sbci : decode 0b0100101001100101 0 = .ok (.sbci 22 165) ∧
    encode (.sbci 22 165) = [0b0100101001100101] := by decide
theorem test_decode_sbiw : decode 0b1001011110010110 0 = .ok (.sbiw 26 38) ∧
    encode (.sbiw 26 38) = [0b1001011110010110] := by decide
theorem test_decode_and : decode 0b0010000101101101 0 = .ok (.and 22 13) ∧
    encode (.and 22 13) = [0b0010000101101101] := by decide
theorem test_decode_andi : decode 0b0111101001100101 0 = .ok (.andi 22 165) ∧
    encode (.andi 22 165) = [0b0111101001100101] := by decide
theorem test_decode_or : decode 0b0010100101101101 0 = .ok (.or 22 13) ∧
    encode (.or 22 13) = [0b0010100101101101] := by decide
theorem test_decode_ori : decode 0b0110101001100101 0 = .ok (.ori 22 165) ∧
    encode (.ori 22 165) = [0b0110101001100101] := by decide
theorem test_decode_eor : decode 0b0010010101101101 0 = .ok (.eor 22 13) ∧
    encode (.eor 22 13) = [0b0010010101101101] := by decide
theorem test_decode_com : decode 0b1001010101100000 0 = .ok (.com 22) ∧
    encode (.com 22) = [0b1001010101100000] := by decide
theorem test_decode_neg : decode 0b1001010101100001 0 = .ok (.neg 22) ∧
    encode (.neg 22) = [0b1001010101100001] := by decide
theorem test_decode_inc : decode 0b1001010101100011 0 = .ok (.inc 22) ∧
    encode (.inc 22) = [0b1001010101100011] := by decide
theorem test_decode_dec : decode 0b1001010101101010 0 = .ok (.dec 22) ∧
    encode (.dec 22) = [0b1001010101101010] := by decide
theorem test_decode_mul : decode 0b1001110101101101 0 = .ok (.mul 22 13) ∧
    encode (.mul 22 13) = [0b1001110101101101] := by decide
theorem test_decode_muls : decode 0b0000001001101101 0 = .ok (.muls 22 29) ∧
    encode (.muls 22 29) = [0b0000001001101101] := by decide
theorem test_decode_mulsu : decode 0b0000001101100101 0 = .ok (.mulsu 22 21) ∧
    encode (.mulsu 22 21) = [0b0000001101100101] := by decide
theorem test_decode_fmul : decode 0b0000001101101101 0 = .ok (.fmul 22 21) ∧
    encode (.fmul 22 21) = [0b0000001101101101] := by decide
theorem test_decode_fmuls : decode 0b0000001111100101 0 = .ok (.fmuls 22 21) ∧
    encode (.fmuls 22 21) = [0b0000001111100101] := by decide
theorem test_decode_fmulsu : decode 0b0000001111101101 0 = .ok (.fmulsu 22 21) ∧
    encode (.fmulsu 22 21) = [0b0000001111101101] := by decide
theorem test_decode_rjmp : decode 0b1100101001100101 0 = .ok (.rjmp 2661) ∧
    encode (.rjmp 2661) = [0b1100101001100101] := by decide
theorem test_decode_ijmp : decode 0b1001010000001001 0 = .ok (.ijmp) ∧
    encode (.ijmp) = [0b1001010000001001] := by decide
theorem test_decode_jmp : decode 0b1001010000001100 0b1001101001100101 = .ok (.jmp 39525) ∧
    encode (.jmp 39525) = [0b1001010000001100, 0b1001101001100101] := by decide
theorem test_decode_rcall : decode 0b1101101001100101 0 = .ok (.rcall 2661) ∧
    encode (.rcall 2661) = [0b1101101001100101] := by decide
theorem test_decode_icall : decode 0b1001010100001001 0 = .ok (.icall) ∧
    encode (.icall) = [0b1001010100001001] := by decide
theorem test_decode_call : decode 0b1001010000001110 0b1001101001100101 = .ok (.call 39525) ∧
    encode (.call 39525) = [0b1001010000001110, 0b1001101001100101] := by decide
theorem test_decode_ret : decode 0b1001010100001000 0 = .ok (.ret) ∧
    encode (.ret) = [0b1001010100001000] := by decide
theorem test_decode_reti : decode 0b1001010100011000 0 = .ok (.reti) ∧
    encode (.reti) = [0b1001010100011000] := by decide
theorem test_decode_cpse : decode 0b0001000101101101 0 = .ok (.cpse 22 13) ∧
    encode (.cpse 22 13) = [0b0001000101101101] := by decide
theorem test_decode_cp : decode 0b0001010101101101 0 = .ok (.cp 22 13) ∧
    encode (.cp 22 13) = [0b0001010101101101] := by decide
theorem test_decode_cpc : decode 0b0000010101101101 0 = .ok (.cpc 22 13) ∧
    encode (.cpc 22 13) = [0b0000010101101101] := by decide
theorem test_decode_cpi : decode 0b0011101001100101 0 = .ok (.cpi 22 165) ∧
    encode (.cpi 22 165) = [0b0011101001100101] := by decide
theorem test_decode_sbrc : decode 0b1111110011010101 0 = .ok (.sbrc 13 5) ∧
    encode (.sbrc 13 5) = [0b1111110011010101] := by decide
theorem test_decode_sbrs : decode 0b1111111011010101 0 = .ok (.sbrs 13 5) ∧
    encode (.sbrs 13 5) = [0b1111111011010101] := by decide
theorem test_decode_sbic : decode 0b1001100110110101 0 = .ok (.sbic 22 5) ∧
    encode (.sbic 22 5) = [0b1001100110110101] := by decide
theorem test_decode_sbis : decode 0b1001101110110101 0 = .ok (.sbis 22 5) ∧
    encode (.sbis 22 5) = [0b1001101110110101] := by decide
theorem test_decode_brbs : decode 0b1111001010011110 0 = .ok (.brbs 6 83) ∧
    encode (.brbs 6 83) = [0b1111001010011110] := by decide
theorem test_decode_brbc : decode 0b1111011010011110 0 = .ok (.brbc 6 83) ∧
    encode (.brbc 6 83) = [0b1111011010011110] := by decide
theorem test_decode_mov : decode 0b0010110101101101 0 = .ok (.mov 22 13) ∧
    encode (.mov 22 13) = [0b0010110101101101] := by decide
theorem test_decode_movw : decode 0b0000000101101101 0 = .ok (.movw 12 26) ∧
    encode (.movw 12 26) = [0b0000000101101101] := by decide
theorem test_decode_ldi : decode 0b1110101001100101 0 = .ok (.ldi 22 165) ∧
    encode (.ldi 22 165) = [0b1110101001100101] := by decide
theorem test_decode_ldX : decode 0b1001000101101100 0 = .ok (.ldX 22) ∧
    encode (.ldX 22) = [0b1001000101101100] := by decide
theorem test_decode_ldXInc : decode 0b1001000101101101 0 = .ok (.ldXInc 22) ∧
    encode (.ldXInc 22) = [0b1001000101101101] := by decide
theorem test_decode_ldXDec : decode 0b1001000101101110 0 = .ok (.ldXDec 22) ∧
    encode (.ldXDec 22) = [0b1001000101101110] := by decide
theorem test_decode_ldYInc : decode 0b1001000101101001 0 = .ok (.ldYInc 22) ∧
    encode (.ldYInc 22) = [0b1001000101101001] := by decide
theorem test_decode_ldYDec : decode 0b1001000101101010 0 = .ok (.ldYDec 22) ∧
    encode (.ldYDec 22) = [0b1001000101101010] := by decide
theorem test_decode_lddY : decode 0b1010010101101110 0 = .ok (.lddY 22 46) ∧
    encode (.lddY 22 46) = [0b1010010101101110] := by decide
theorem test_decode_ldZInc : decode 0b1001000101100001 0 = .ok (.ldZInc 22) ∧
    encode (.ldZInc 22) = [0b1001000101100001] := by decide
theorem test_decode_ldZDec : decode 0b1001000101100010 0 = .ok (.ldZDec 22) ∧
    encode (.ldZDec 22) = [0b1001000101100010] := by decide
theorem test_decode_lddZ : decode 0b1010010101100110 0 = .ok (.lddZ 22 46) ∧
    encode (.lddZ 22 46) = [0b1010010101100110] := by decide
theorem test_decode_lds : decode 0b1001000101100000 0b0000010101100011 = .ok (.lds 22 1379) ∧
    encode (.lds 22 1379) = [0b1001000101100000, 0b0000010101100011] := by decide
theorem test_decode_stX : decode 0b1001001011011100 0 = .ok (.stX 13) ∧
    encode (.stX 13) = [0b1001001011011100] := by decide
theorem test_decode_stXInc : decode 0b1001001011011101 0 = .ok (.stXInc 13) ∧
    encode (.stXInc 13) = [0b1001001011011101] := by decide
theorem test_decode_stXDec : decode 0b1001001011011110 0 = .ok (.stXDec 13) ∧
    encode (.stXDec 13) = [0b1001001011011110] := by decide
theorem test_decode_stYInc : decode 0b1001001011011001 0 = .ok (.stYInc 13) ∧
    encode (.stYInc 13) = [0b1001001011011001] := by decide
theorem test_decode_stYDec : decode 0b1001001011011010 0 = .ok (.stYDec 13) ∧
    encode (.stYDec 13) = [0b1001001011011010] := by decide
theorem test_decode_stdY : decode 0b1010011011011110 0 = .ok (.stdY 46 13) ∧
    encode (.stdY 46 13) = [0b1010011011011110] := by decide
theorem test_decode_stZInc : decode 0b1001001011010001 0 = .ok (.stZInc 13) ∧
    encode (.stZInc 13) = [0b1001001011010001] := by decide
theorem test_decode_stZDec : decode 0b1001001011010010 0 = .ok (.stZDec 13) ∧
    encode (.stZDec 13) = [0b1001001011010010] := by decide
theorem test_decode_stdZ : decode 0b1010011011010110 0 = .ok (.stdZ 46 13) ∧
    encode (.stdZ 46 13) = [0b1010011011010110] := by decide
theorem test_decode_sts : decode 0b1001001011010000 0b0000010101100011 = .ok (.sts 1379 13) ∧
    encode (.sts 1379 13) = [0b1001001011010000, 0b0000010101100011] := by decide
theorem test_decode_lpmR0 : decode 0b1001010111001000 0 = .ok (.lpmR0) ∧
    encode (.lpmR0) = [0b1001010111001000] := by decide
theorem test_decode_lpmZ : decode 0b1001000101100100 0 = .ok (.lpmZ 22) ∧
    encode (.lpmZ 22) = [0b1001000101100100] := by decide
theorem test_decode_lpmZInc : decode 0b1001000101100101 0 = .ok (.lpmZInc 22) ∧
    encode (.lpmZInc 22) = [0b1001000101100101] := by decide
theorem test_decode_inIo : decode 0b1011010101101101 0 = .ok (.inIo 22 45) ∧
    encode (.inIo 22 45) = [0b1011010101101101] := by decide
theorem test_decode_outIo : decode 0b1011110011011101 0 = .ok (.outIo 45 13) ∧
    encode (.outIo 45 13) = [0b1011110011011101] := by decide
theorem test_decode_push : decode 0b1001001011011111 0 = .ok (.push 13) ∧
    encode (.push 13) = [0b1001001011011111] := by decide
theorem test_decode_pop : decode 0b1001000101101111 0 = .ok (.pop 22) ∧
    encode (.pop 22) = [0b1001000101101111] := by decide
theorem test_decode_sbi : decode 0b1001101010110101 0 = .ok (.sbi 22 5) ∧
    encode (.sbi 22 5) = [0b1001101010110101] := by decide
theorem test_decode_cbi : decode 0b1001100010110101 0 = .ok (.cbi 22 5) ∧
    encode (.cbi 22 5) = [0b1001100010110101] := by decide
theorem test_decode_lsr : decode 0b1001010101100110 0 = .ok (.lsr 22) ∧
    encode (.lsr 22) = [0b1001010101100110] := by decide
theorem test_decode_ror : decode 0b1001010101100111 0 = .ok (.ror 22) ∧
    encode (.ror 22) = [0b1001010101100111] := by decide
theorem test_decode_asr : decode 0b1001010101100101 0 = .ok (.asr 22) ∧
    encode (.asr 22) = [0b1001010101100101] := by decide
theorem test_decode_swap : decode 0b1001010101100010 0 = .ok (.swap 22) ∧
    encode (.swap 22) = [0b1001010101100010] := by decide
theorem test_decode_bset : decode 0b1001010001101000 0 = .ok (.bset 6) ∧
    encode (.bset 6) = [0b1001010001101000] := by decide
theorem test_decode_bclr : decode 0b1001010011101000 0 = .ok (.bclr 6) ∧
    encode (.bclr 6) = [0b1001010011101000] := by decide
theorem test_decode_bst : decode 0b1111101101100101 0 = .ok (.bst 22 5) ∧
    encode (.bst 22 5) = [0b1111101101100101] := by decide
theorem test_decode_bld : decode 0b1111100101100101 0 = .ok (.bld 22 5) ∧
    encode (.bld 22 5) = [0b1111100101100101] := by decide
theorem test_decode_nop : decode 0b0000000000000000 0 = .ok (.nop) ∧
    encode (.nop) = [0b0000000000000000] := by decide
theorem test_decode_sleep : decode 0b1001010110001000 0 = .ok (.sleep) ∧
    encode (.sleep) = [0b1001010110001000] := by decide
theorem test_decode_wdr : decode 0b1001010110101000 0 = .ok (.wdr) ∧
    encode (.wdr) = [0b1001010110101000] := by decide
theorem test_decode_brk : decode 0b1001010110011000 0 = .ok (.brk) ∧
    encode (.brk) = [0b1001010110011000] := by decide

theorem test_decode_reserved : decode 0x0001 0 = .error (.noRow 0x0001) ∧ decode 0xFFFF 0 = .error (.noRow 0xFFFF) ∧
    decode 0xFD08 0 = .error (.noRow 0xFD08) ∧ decode 0x95E8 0 = .error (.noRow 0x95E8) ∧
    decode 0x940D 0 = .error (.operandConstraint 0x940D) ∧ decode 0x91AD 0 = .error (.operandConstraint 0x91AD) := by decide
theorem test_decode_table_word : decodeTableWord 32 0x0200940E = some (.call 0x200) ∧
    decodeTableWord 16 0x0F01 = some (.add 16 17) ∧ decodeTableWord 16 0xFFFF = none := by decide

/-! ### One step on a small state (95_test_vectors.md sections 2.1 to 2.6) -/

/-- The state after the step that fetches `w` at pc. -/
def at_ (w : Nat) (s : State) : State :=
  match step (s.withFetchWord 32 w) with
  | .next t => t
  | _ => s

/-- R16, R17 and SREG given, everything else as at reset. -/
def two (a b sr : Byte) : State := ((State.reset.setReg 16 a).setReg 17 b).setSreg sr

/-- R16 and SREG after the step. -/
def alu (w : Nat) (a b sr : Byte) : Byte × Byte := ((at_ w (two a b sr)).reg 16, (at_ w (two a b sr)).sreg)

/-- R1:R0, SREG and the cycles after the step. -/
def product (w : Nat) (a b : Byte) : Word × Byte × Nat :=
  ((at_ w (two a b 0)).reg 1 ++ (at_ w (two a b 0)).reg 0, (at_ w (two a b 0)).sreg, (at_ w (two a b 0)).cycles)

/-- The pair `d`, SREG and the cycles after the step, from the pair `v`. -/
def word (w : Nat) (d : BitVec 5) (v : Word) : Word × Byte × Nat :=
  ((at_ w (State.reset.setPair d v)).pair d, (at_ w (State.reset.setPair d v)).sreg, (at_ w (State.reset.setPair d v)).cycles)

/-- pc and the cycles after the step. -/
def goes (w : Nat) (s : State) : Nat × Nat := ((at_ w s).pc.toNat, (at_ w s).cycles)

/-- The reset state with pc at `p`. -/
def from_ (p : Word) : State := State.reset.setPc p

/-- The reset state with pointer `p` at `v`. -/
def pointing (p : Ptr) (v : Word) : State := State.reset.setPtr p v

theorem test_add_overflow : alu 0x0F01 0x7F 0x01 0x00 = (0x80, 0x2C) := by decide
theorem test_add_carry : alu 0x0F01 0x80 0x80 0x00 = (0x00, 0x1B) := by decide
theorem test_adc_carry : alu 0x1F01 0xFF 0x00 0x01 = (0x00, 0x23) := by decide
theorem test_adc_overflow : alu 0x1F01 0x7F 0x00 0x01 = (0x80, 0x2C) := by decide
theorem test_sub_overflow : alu 0x1B01 0x80 0x01 0x00 = (0x7F, 0x38) := by decide
theorem test_sub_borrow : alu 0x1B01 0x00 0x01 0x00 = (0xFF, 0x35) := by decide
theorem test_subi : alu 0x5001 0x10 0x00 0x00 = (0x0F, 0x20) := by decide
theorem test_sbc_keeps_z : alu 0x0B01 0x01 0x00 0x03 = (0x00, 0x02) := by decide
theorem test_sbc_z_cleared : alu 0x0B01 0x01 0x00 0x01 = (0x00, 0x00) := by decide
theorem test_sbci : alu 0x4000 0x00 0x00 0x02 = (0x00, 0x02) := by decide
theorem test_cp_less : alu 0x1701 0x05 0x06 0x00 = (0x05, 0x35) := by decide
theorem test_cpc_borrow : alu 0x0701 0x00 0x00 0x03 = (0x00, 0x35) := by decide
theorem test_cpi : alu 0x3800 0x7F 0x00 0x00 = (0x7F, 0x0D) := by decide
theorem test_and : alu 0x2301 0xF0 0x0F 0x0F = (0x00, 0x03) := by decide
theorem test_andi : alu 0x7800 0x80 0x00 0x00 = (0x80, 0x14) := by decide
theorem test_or : alu 0x2B01 0x00 0x00 0x08 = (0x00, 0x02) := by decide
theorem test_ori : alu 0x6001 0x80 0x00 0x00 = (0x81, 0x14) := by decide
theorem test_eor : alu 0x2700 0x5A 0x00 0x1D = (0x00, 0x03) := by decide
theorem test_com : alu 0x9500 0x00 0x00 0x00 = (0xFF, 0x15) := by decide
theorem test_neg_min : alu 0x9501 0x80 0x00 0x00 = (0x80, 0x0D) := by decide
theorem test_neg_half : alu 0x9501 0x10 0x00 0x00 = (0xF0, 0x15) := by decide
theorem test_inc : alu 0x9503 0x7F 0x00 0x01 = (0x80, 0x0D) := by decide
theorem test_inc_wraps : alu 0x9503 0xFF 0x00 0x00 = (0x00, 0x02) := by decide
theorem test_dec : alu 0x950A 0x80 0x00 0x01 = (0x7F, 0x19) := by decide
theorem test_lsr : alu 0x9506 0x01 0x00 0x00 = (0x00, 0x1B) := by decide
theorem test_ror : alu 0x9507 0x01 0x00 0x01 = (0x80, 0x15) := by decide
theorem test_ror_zero : alu 0x9507 0x00 0x00 0x01 = (0x80, 0x0C) := by decide
theorem test_asr : alu 0x9505 0x81 0x00 0x00 = (0xC0, 0x15) := by decide
theorem test_swap : alu 0x9502 0x12 0x00 0x00 = (0x21, 0x00) := by decide
theorem test_bset_t : alu 0x9468 0x00 0x00 0x00 = (0x00, 0x40) := by decide
theorem test_bclr_c : alu 0x9488 0x00 0x00 0xFF = (0x00, 0xFE) := by decide
theorem test_bst_set : alu 0xFB03 0x08 0x00 0x00 = (0x08, 0x40) := by decide
theorem test_bst_clear : alu 0xFB03 0xF7 0x00 0x40 = (0xF7, 0x00) := by decide
theorem test_bld_clear : alu 0xF900 0xFF 0x00 0x00 = (0xFE, 0x00) := by decide
theorem test_adiw_carry : word 0x9601 24 0xFFFF = (0x0000, 0x03, 2) := by decide
theorem test_adiw_overflow : word 0x96CF 24 0x7FC1 = (0x8000, 0x0C, 2) := by decide
theorem test_sbiw_borrow : word 0x9701 24 0x0000 = (0xFFFF, 0x15, 2) := by decide
theorem test_sbiw_overflow : word 0x9711 26 0x8000 = (0x7FFF, 0x18, 2) := by decide
theorem test_mul : product 0x9F01 0xFF 0xFF = (0xFE01, 0x01, 2) := by decide
theorem test_muls : product 0x0201 0xFF 0x01 = (0xFFFF, 0x01, 2) := by decide
theorem test_mulsu : product 0x0301 0xFF 0xFF = (0xFF01, 0x01, 2) := by decide
theorem test_fmul : product 0x0309 0xFF 0xFF = (0xFC02, 0x01, 2) := by decide
theorem test_fmuls : product 0x0381 0x80 0x80 = (0x8000, 0x00, 2) := by decide
theorem test_fmulsu : product 0x0389 0x80 0xFF = (0x0100, 0x01, 2) := by decide
theorem test_rjmp_wraps : goes 0xC800 State.reset = (0xF801, 2) := by decide
theorem test_rjmp_far : goes 0xC7FF (from_ 0x10) = (0x0810, 2) := by decide
theorem test_jmp : goes 0x1234940C State.reset = (0x1234, 3) := by decide
theorem test_ijmp : goes 0x9409 (pointing .z 0x0100) = (0x0100, 2) := by decide
theorem test_cpse_skips_one : goes 0x1301 State.reset = (2, 2) := by decide
theorem test_cpse_skips_two : goes 0x91001301 State.reset = (3, 3) := by decide
theorem test_cpse_falls : goes 0x1301 (two 1 2 0) = (1, 1) := by decide
theorem test_sbrc_skips_two : goes 0x940EFD07 (two 0x7F 0 0) = (3, 3) := by decide
theorem test_sbrs_skips : goes 0xFF00 (two 1 0 0) = (2, 2) := by decide
theorem test_sbrs_falls : goes 0xFF00 State.reset = (1, 1) := by decide
theorem test_skipped_word_not_decoded : goes 0xFFFF1300 State.reset = (2, 2) := by decide
theorem test_brbs_taken : goes 0xF009 ((from_ 0x10).setSreg 2) = (0x12, 2) := by decide
theorem test_brbs_not_taken : goes 0xF009 (from_ 0x10) = (0x11, 1) := by decide
theorem test_brbc_back : goes 0xF601 (from_ 0x10) = (0xFFD1, 2) := by decide
theorem test_brbc_not_taken : goes 0xF414 ((from_ 0x10).setSreg 0x10) = (0x11, 1) := by decide
theorem test_nop : goes 0x0000 State.reset = (1, 1) := by decide
theorem test_wdr : goes 0x95A8 State.reset = (1, 1) := by decide
theorem test_sbic_injected_high : goes 0x991B ((State.reset.writeAt 0x24 0xF7).inject .b 3 (some .high)) = (1, 1) := by decide
theorem test_sbis_pull_up : goes 0x9B1B ((State.reset.writeAt 0x24 0xF7).writeAt 0x25 8) = (2, 2) := by decide

theorem test_rcall : goes 0xD005 (from_ 0x10) = (0x16, 3) ∧ (at_ 0xD005 (from_ 0x10)).ram 0x08FF = 0x11 ∧
    (at_ 0xD005 (from_ 0x10)).ram 0x08FE = 0 ∧ (at_ 0xD005 (from_ 0x10)).sp = 0x08FD := by decide
theorem test_call_at_sram_start :
    let t := at_ 0x0200940E ((from_ 0x10).setSp 0x0100)
    t.pc = 0x200 ∧ t.ram 0x0100 = 0x12 ∧ t.ram 0x00FF = 0 ∧ t.sp = 0xFE ∧ t.cycles = 4 := by decide
theorem test_icall : goes 0x9509 ((pointing .z 0x0345).setPc 0x20) = (0x0345, 3) ∧
    (at_ 0x9509 ((pointing .z 0x0345).setPc 0x20)).ram 0x08FF = 0x21 := by decide
/-- R268's corner case: the pushes land on R30 and R31, and the target is the Z read before them. -/
theorem test_icall_over_z : goes 0x9509 ((pointing .z 0x0345).setSp 0x1F) = (0x0345, 3) ∧
    (at_ 0x9509 ((pointing .z 0x0345).setSp 0x1F)).ptr .z = 0x0100 := by decide

/-- The reset state with a return address on the stack. -/
def stacked (hi lo : Byte) : State := ((State.reset.setRam 0x08FE hi).setRam 0x08FF lo).setSp 0x08FD

theorem test_ret : goes 0x9508 (stacked 0x12 0x34) = (0x1234, 4) ∧ (at_ 0x9508 (stacked 0x12 0x34)).sp = 0x08FF := by decide
theorem test_ret_empty_stack : (at_ 0x9508 State.reset).halted = some (.dataAddressOutOfRange 0x0900) ∧
    (at_ 0x9508 State.reset).sp = 0x08FF ∧ goes 0x9508 State.reset = (0, 0) := by decide
theorem test_reti : goes 0x9518 (stacked 0 0x40) = (0x40, 4) ∧ (at_ 0x9518 (stacked 0 0x40)).sreg = 0x80 ∧
    (at_ 0x9518 (stacked 0 0x40)).irqInhibit = true := by decide
theorem test_mov : (at_ 0x2E0F (State.reset.setReg 31 0xA5)).reg 0 = 0xA5 := by decide
theorem test_movw : (at_ 0x01FC (State.reset.setPair 24 0x1234)).ptr .z = 0x1234 := by decide
theorem test_ldi : (at_ 0xEFFF State.reset).reg 31 = 0xFF := by decide
theorem test_ld_x : (at_ 0x900C ((pointing .x 0x0100).setRam 0x0100 0x77)).reg 0 = 0x77 := by decide
theorem test_ld_x_register_window : (at_ 0x910C ((pointing .x 0x001F).setReg 31 0x99)).reg 16 = 0x99 := by decide
theorem test_ld_x_beyond : (at_ 0x910C (pointing .x 0x0900)).halted = some (.dataAddressOutOfRange 0x0900) ∧
    goes 0x910C (pointing .x 0x0900) = (0, 0) := by decide
theorem test_ld_x_inc : (at_ 0x900D ((pointing .x 0x01FF).setRam 0x01FF 9)).reg 0 = 9 ∧
    (at_ 0x900D (pointing .x 0x01FF)).ptr .x = 0x0200 := by decide
theorem test_ld_x_dec : (at_ 0x900E ((pointing .x 0x0200).setRam 0x01FF 0x55)).reg 0 = 0x55 ∧
    (at_ 0x900E (pointing .x 0x0200)).ptr .x = 0x01FF := by decide
theorem test_ld_x_dec_from_zero : (at_ 0x910E State.reset).halted = some (.dataAddressOutOfRange 0xFFFF) ∧
    (at_ 0x910E State.reset).ptr .x = 0 := by decide
theorem test_ld_y_inc : (at_ 0x9009 ((pointing .y 0x0100).setRam 0x0100 7)).reg 0 = 7 ∧
    (at_ 0x9009 (pointing .y 0x0100)).ptr .y = 0x0101 := by decide
theorem test_ld_y_dec : (at_ 0x900A ((pointing .y 0x0101).setRam 0x0100 7)).reg 0 = 7 ∧
    (at_ 0x900A (pointing .y 0x0101)).ptr .y = 0x0100 := by decide
theorem test_ldd_y : (at_ 0xAD0F ((pointing .y 0x0100).setRam 0x013F 0xAB)).reg 16 = 0xAB := by decide
theorem test_ld_z_inc : (at_ 0x9001 ((pointing .z 0x0100).setRam 0x0100 7)).reg 0 = 7 ∧
    (at_ 0x9001 (pointing .z 0x0100)).ptr .z = 0x0101 := by decide
theorem test_ld_z_dec : (at_ 0x9002 ((pointing .z 0x0101).setRam 0x0100 7)).reg 0 = 7 ∧
    (at_ 0x9002 (pointing .z 0x0101)).ptr .z = 0x0100 := by decide
theorem test_ldd_z_portb : (at_ 0x8100 ((pointing .z 0x0025).writeAt 0x25 0x3C)).reg 16 = 0x3C := by decide
theorem test_lds : (at_ 0x08FF9100 (State.reset.setRam 0x08FF 0x42)).reg 16 = 0x42 ∧ goes 0x08FF9100 State.reset = (2, 2) := by
  decide
theorem test_sts_beyond : (at_ 0x09009300 State.reset).halted = some (.dataAddressOutOfRange 0x0900) := by decide
theorem test_sts : (at_ 0x01049300 (two 0x5A 0 0)).ram 0x0104 = 0x5A := by decide
theorem test_st_x_sreg : (at_ 0x930C ((pointing .x 0x005F).setReg 16 0x81)).sreg = 0x81 := by decide
theorem test_st_x_inc : (at_ 0x930D ((pointing .x 0x0100).setReg 16 0x5A)).ram 0x0100 = 0x5A ∧
    (at_ 0x930D (pointing .x 0x0100)).ptr .x = 0x0101 := by decide
theorem test_st_x_dec : (at_ 0x930E ((pointing .x 0x0101).setReg 16 0x5A)).ram 0x0100 = 0x5A ∧
    (at_ 0x930E (pointing .x 0x0101)).ptr .x = 0x0100 := by decide
theorem test_st_y_inc : (at_ 0x9309 ((pointing .y 0x0100).setReg 16 0x5A)).ram 0x0100 = 0x5A ∧
    (at_ 0x9309 (pointing .y 0x0100)).ptr .y = 0x0101 := by decide
theorem test_st_y_dec : (at_ 0x930A ((pointing .y 0x0101).setReg 16 0x5A)).ram 0x0100 = 0x5A ∧
    (at_ 0x930A (pointing .y 0x0101)).ptr .y = 0x0100 := by decide
theorem test_std_y : (at_ 0x8309 ((pointing .y 0x01FF).setReg 16 0x11)).ram 0x0200 = 0x11 := by decide
theorem test_st_z_inc : (at_ 0x9301 ((pointing .z 0x0100).setReg 16 0x5A)).ram 0x0100 = 0x5A ∧
    (at_ 0x9301 (pointing .z 0x0100)).ptr .z = 0x0101 := by decide
theorem test_st_z_dec : (at_ 0x9302 ((pointing .z 0x0101).setReg 16 0x5A)).ram 0x0100 = 0x5A ∧
    (at_ 0x9302 (pointing .z 0x0101)).ptr .z = 0x0100 := by decide
theorem test_std_z : (at_ 0x8301 ((pointing .z 0x01FF).setReg 16 0x11)).ram 0x0200 = 0x11 := by decide
theorem test_lpm_r0 : (at_ 0x95C8 (pointing .z 1)).reg 0 = 0x95 ∧ goes 0x95C8 (pointing .z 1) = (1, 3) := by decide
theorem test_lpm_z : (at_ 0x9104 State.reset).reg 16 = 0x04 := by decide
theorem test_lpm_z_beyond : (at_ 0x9104 (pointing .z 0x8000)).halted = some (.programReadOutOfRange 0x8000) := by decide
theorem test_lpm_z_inc : (at_ 0x9105 (pointing .z 0x00FF)).ptr .z = 0x0100 ∧ (at_ 0x9105 State.reset).reg 16 = 0x05 := by decide
theorem test_in_sreg : (at_ 0xB70F (two 0 0 0xA5)).reg 16 = 0xA5 := by decide
theorem test_out_sph : (at_ 0xBF0E (two 4 0 0)).sp = 0x04FF := by decide
theorem test_push : (at_ 0x930F (two 0xEE 0 0)).ram 0x08FF = 0xEE ∧ (at_ 0x930F State.reset).sp = 0x08FE := by decide
theorem test_pop : (at_ 0x910F ((State.reset.setRam 0x08FF 0x99).setSp 0x08FE)).reg 16 = 0x99 := by decide
theorem test_pop_empty_stack : (at_ 0x910F State.reset).halted = some (.dataAddressOutOfRange 0x0900) ∧
    (at_ 0x910F State.reset).sp = 0x08FF := by decide
theorem test_bld_set : (at_ 0xF917 (two 0 0 0x40)).reg 17 = 0x80 := by decide
theorem test_sei : (at_ 0x9478 State.reset).sreg = 0x80 ∧ (at_ 0x9478 State.reset).irqInhibit = true := by decide

/-- TIFR0 with all three flags set. -/
def flagged : State := { State.reset with timer0 := { State.reset.timer0 with tifr := 7 } }

theorem test_sbi_tifr : (at_ 0x9AA9 flagged).timer0.tifr = 5 := by decide
theorem test_sbi_pin_toggles : (at_ 0x9A1A (State.reset.writeAt 0x25 4)).portB.port = 0 := by decide
theorem test_cbi : (at_ 0x982F (State.reset.writeAt 0x25 0x81)).portB.port = 1 := by decide
theorem test_cbi_tifr : (at_ 0x98A8 flagged).timer0.tifr = 7 := by decide
theorem test_out_tifr : (at_ 0xBB05 (flagged.setReg 16 1)).timer0.tifr = 6 := by decide

/-- SMCR and SREG given. -/
def sleepy (m sr : Byte) : State := { State.reset with smcr := m, sreg := sr }

theorem test_sleep : (at_ 0x9588 (sleepy 1 0x80)).sleeping = true ∧ goes 0x9588 (sleepy 1 0x80) = (1, 1) := by decide
theorem test_sleep_disabled : (at_ 0x9588 State.reset).sleeping = false := by decide
theorem test_break : (at_ 0x9598 (from_ 5)).halted = some (.breakpoint 5) ∧ goes 0x9598 (from_ 5) = (5, 0) := by decide
theorem test_decode_error : (at_ 0xFFFF State.reset).halted = some (.decodeError 0 0xFFFF) := by decide
theorem test_end_of_program_memory :
    (match step (from_ 0x4000) with | .next t => t.halted | _ => none) = some (.fetchOutOfRange 0x4000) := by decide

/-! ### Interrupts, timers, ports and the host (95_test_vectors.md sections 1.2, 1.4, 1.5, 2.3, 2.7) -/

/-- TOV0 pending and enabled, at pc 0x0100. -/
def overflowed : State :=
  { State.reset with pc := 0x0100, sreg := 0x83, timer0 := { State.reset.timer0 with timsk := 1, tifr := 1 } }

/-- The step of a state. -/
def stepped (s : State) : State :=
  match step s with
  | .next t => t
  | _ => s

theorem test_interrupt_entry : (stepped overflowed).pc = 0x20 ∧ (stepped overflowed).sreg = 3 ∧
    (stepped overflowed).ram 0x08FF = 0 ∧ (stepped overflowed).ram 0x08FE = 1 ∧ (stepped overflowed).sp = 0x08FD ∧
    (stepped overflowed).timer0.tifr = 0 ∧ (stepped overflowed).cycles = 4 := by decide
theorem test_interrupt_priority :
    (stepped { overflowed with timer1 := { State.reset.timer1 with timsk := 2, tifr := 2 } }).pc = 0x16 := by decide
theorem test_wake : (stepped { overflowed with sleeping := true }).cycles = 8 ∧
    (stepped { overflowed with sleeping := true }).sleeping = false := by decide
theorem test_sleep_step : (stepped { overflowed with sleeping := true, sreg := 0 }).cycles = 1 ∧
    (stepped { overflowed with sleeping := true, sreg := 0 }).pc = 0x0100 := by decide
/-- Timer0 CTC, OCR0A = 1, CS = 1, COM0A = 01, PD6 an output (R451, R457 60_exceptions.md): OCF0B (OCR0B = 0) at the first
tick, OCF0A and the toggle of OC0A at the second. -/
theorem test_ctc_match :
    let s := { State.reset with
      portD := { Port.reset with ddr := 0x40 }
      timer0 := { State.reset.timer0 with tccrA := 0x42, tccrB := 1, ocrABuf := 1, ocrAAct := 1 } }
    (s.advance 1).timer0.tifr = 4 ∧ (s.advance 2).timer0.tifr = 6 ∧ (s.advance 2).portD.port = 0x40 ∧
      (s.advance 2).timer0.count = 0 := by decide
/-- A 16-bit write high byte first, then a read low byte first. -/
theorem test_temp1 :
    let s := (State.reset.writeAt 0x85 0x12).writeAt 0x84 0x34
    s.timer1.count = 0x1234 ∧ (s.readAt 0x84).1 = 0x34 ∧ ((s.readAt 0x84).2.readAt 0x85).1 = 0x12 := by decide
theorem test_injected_pin :
    let s := ((State.reset.writeAt 0x24 0xFE).writeAt 0x25 0xA5).inject .b 0 (some .low)
    (s.readAt 0x23).1 = 0xA4 ∧ (s.readAt 0x25).1 = 0xA5 := by decide
theorem test_input_capture :
    let s := { State.reset with icpLevel := some .low, timer1 := { State.reset.timer1 with tccrB := 0x41, count := 12 } }
    (s.inputCapture .high).icr1 = 12 ∧ (s.inputCapture .high).timer1.tifr = 0x20 := by decide
theorem test_image_bytes :
    loadImage (":020001001122CA".toList) = some [(1, 0x11), (2, 0x22)] ∧
      loadImage (":01000500CD2D\n:010004007784".toList) = some [(4, 0x77), (5, 0xCD)] := by decide
theorem test_image_not_data : loadImage (":00000001FF\n:0200010011".toList) = some [] ∧
    loadImage (":018000001100".toList) = none := by decide
theorem test_execute_overshoot :
    (match execute 1 ((stacked 0 0x40).withFetchWord 16 0x9508) with | .next t => t.cycles | _ => 0) = 4 := by decide
theorem test_assembly : (Instr.add 16 17).assembly = "ADD r16, r17" ∧ (Instr.stdZ 1 16).assembly = "STD Z+1, r16" ∧
    (Instr.brbc 1 0x7E).assembly = "BRBC 1, .-4" ∧ (Instr.outIo 5 16).assembly = "OUT 5, r16" := by decide
theorem test_asm_displacement : asmDisplacement 7 0x0030 0x0031 = 0x7E ∧ asmDisplacement 12 0x16 0x10 = 5 := by decide
theorem test_arduino_pins : arduinoPin 13 = some (.b, 5) ∧ arduinoPin 0 = some (.d, 0) ∧ arduinoPin 14 = some (.c, 0) ∧
    arduinoPin 20 = none := by decide

/-! ### Witnesses: for each statement with hypotheses, states and operands that meet them together, one for each clause
and at the ends of each range -/

/-- Every address in the two stack bytes below `sp` is a plain byte. -/
def stackAt (sp : Word) : State := State.reset.setSp sp

theorem witness_DecodeAfterEncode : (Instr.jmp 0xFFFF).wellFormed = true ∧ (Instr.fmulsu 23 16).wellFormed = true := by decide
theorem witness_EncodeAfterDecode : decode 0x940C 0xFFFF = .ok (.jmp 0xFFFF) ∧ decode 0xFFFE 0 = .error (.noRow 0xFFFE) ∧
    decode 0xFFF7 0 = .ok (.sbrs 31 7) := by decide
theorem witness_DecodeIsRowLookup :
    (∃ r ∈ opcodeRows, (0x940D : Word) &&& r.mask = r.pattern ∧ (r.build 0x940D 0).wellFormed = false) ∧
    (∃ r ∈ opcodeRows, (0x940C : Word) &&& r.mask = r.pattern ∧ (r.build 0x940C 0).wellFormed = true) ∧
    (∀ r ∈ opcodeRows, (0x0001 : Word) &&& r.mask ≠ r.pattern) := by decide
theorem witness_IllegalWordsAreRejected : illegalWord 0x0001 = true ∧ illegalWord 0x00FF = true ∧
    illegalWord 0x0000 = false ∧ illegalWord 0x0100 = false ∧ illegalWord 0xF808 = true ∧ illegalWord 0xFFFF = true ∧
    illegalWord 0xF7FF = false ∧ illegalWord 0xFFF7 = false ∧ (1 : BitVec 6) ≠ 0 ∧ (63 : BitVec 6) ≠ 0 := by decide
theorem noneDue_of_quiet (s : State) (h : s.flag bitI = false) : noneDue s := .inl h
theorem witness_StepRunsDecodedInstruction : ∃ s : State, ∃ w w2 : Word, ∃ i, s.halted = none ∧ s.sleeping = false ∧
    noneDue s ∧ s.progWord s.pc = some w ∧ (isTwoWord w = true → s.progWord (s.pc + 1) = some w2) ∧ decode w w2 = .ok i :=
  ⟨State.reset.withFetchWord 32 0x0200940E, 0x940E, 0x0200, .call 0x200, rfl, rfl, noneDue_of_quiet _ rfl, by decide,
    fun _ => by decide, by decide⟩
theorem witness_HaltedUntilReset : (State.reset.raise (.breakpoint 0)).halted.isSome = true := by decide
theorem witness_FetchAndDecodeFaultsHalt :
    ∃ a b c : State, noneDue a ∧ noneDue b ∧ noneDue c ∧ a.halted = none ∧ b.halted = none ∧ c.halted = none ∧
      a.sleeping = false ∧ b.sleeping = false ∧ c.sleeping = false ∧ Config.pmWords ≤ a.pc.toNat ∧
      b.progWord b.pc = some 0x9100 ∧ isTwoWord 0x9100 = true ∧ Config.pmWords ≤ b.pc.toNat + 1 ∧
      c.progWord c.pc = some 0xFFFF ∧ isTwoWord 0xFFFF = false ∧ (∀ i, decode 0xFFFF 0 ≠ .ok i) :=
  ⟨from_ 0x4000, (from_ 0x3FFF).storeWords 0x9100 0, State.reset.withFetchWord 16 0xFFFF, noneDue_of_quiet _ rfl,
    noneDue_of_quiet _ rfl, noneDue_of_quiet _ rfl, rfl, rfl, rfl, rfl, rfl, rfl, by decide, by decide, by decide,
    by decide, by decide, by decide, fun i h => by
      have e : decode 0xFFFF 0 = .error (.noRow 0xFFFF) := by decide
      rw [e] at h; cases h⟩
/-- The stack bytes at the top of SRAM, across the start of SRAM (0x0100 and the plain cell 0x00FF) and lowest. -/
theorem witness_pushable : pushable (stackAt 0x08FF) ∧ pushable (stackAt 0x0100) ∧ pushable (stackAt 0x0021) := by
  unfold pushable; decide
/-- The ends of the general registers, of the I/O registers beside SPL and SPH, and of data memory. -/
theorem witness_pushesTwice : pushesTwice (stackAt 1) ∧ pushesTwice (stackAt 31) ∧ pushesTwice (stackAt 32) ∧
    pushesTwice (stackAt 0x5C) ∧ pushesTwice (stackAt 0x5F) ∧ pushesTwice (stackAt 0x08FF) := by unfold pushesTwice; decide
theorem witness_InterruptEntryEffect : pushable overflowed ∧ pushesTwice overflowed ∧
    (1 ≤ (overflowed.setSp 1).sp.toNat ∧ (overflowed.setSp 31).sp.toNat ≤ 31) := by unfold pushable pushesTwice; decide
theorem overflowed_entersNext (f : State → State) (h : ∀ u, (f overflowed).pending u = overflowed.pending u) :
    entersNext (f overflowed) .timer0Ovf :=
  ⟨by rw [h]; decide, fun u hu => by rw [h] at hu; cases u <;> first | exact absurd hu (by decide) | decide⟩
theorem witness_InterruptTakenAtStepStart :
    overflowed.halted = none ∧ overflowed.flag bitI = true ∧ entersNext overflowed .timer0Ovf ∧
      overflowed.sleeping = false ∧ overflowed.irqInhibit = false ∧ pushesTwice overflowed :=
  ⟨rfl, rfl, overflowed_entersNext id fun _ => rfl, rfl, rfl, witness_InterruptEntryEffect.2.1⟩
theorem witness_InterruptTakenAtStepStart_wake :
    let s := overflowed.setSleeping true
    s.halted = none ∧ s.flag bitI = true ∧ entersNext s .timer0Ovf ∧ s.sleeping = true ∧ s.smcr.extractLsb' 1 3 = 0 ∧
      pushesTwice s :=
  ⟨rfl, rfl, overflowed_entersNext (·.setSleeping true) fun u => by cases u <;> rfl, rfl, rfl, by
    unfold pushesTwice; decide⟩
theorem witness_InterruptTakenAtStepStart_fault :
    let s := overflowed.setSp 0x0900
    s.halted = none ∧ s.flag bitI = true ∧ entersNext s .timer0Ovf ∧ s.sleeping = false ∧ s.irqInhibit = false ∧
      dataValid s.sp = false :=
  ⟨rfl, rfl, overflowed_entersNext (·.setSp 0x0900) fun u => by cases u <;> rfl, rfl, rfl, by decide⟩
/-- SP = 0, awake and asleep in Idle: the second push has no address. -/
theorem witness_InterruptTakenAtStepStart_secondPush :
    let s := overflowed.setSp 0
    let u := s.setSleeping true
    (s.halted = none ∧ s.flag bitI = true ∧ entersNext s .timer0Ovf ∧ s.sleeping = false ∧ s.irqInhibit = false ∧ s.sp = 0) ∧
      (u.halted = none ∧ u.flag bitI = true ∧ entersNext u .timer0Ovf ∧ u.sleeping = true ∧ u.smcr.extractLsb' 1 3 = 0 ∧
        u.sp = 0) :=
  ⟨⟨rfl, rfl, overflowed_entersNext (·.setSp 0) fun u => by cases u <;> rfl, rfl, rfl, rfl⟩,
    ⟨rfl, rfl, overflowed_entersNext (fun s => (s.setSp 0).setSleeping true) fun u => by cases u <;> rfl, rfl, rfl, rfl⟩⟩
theorem witness_SleepStepChargesOneCycle :
    let s (m : Byte) := (sleepy m 0).setSleeping true
    (s 0).halted = none ∧ (s 0).sleeping = true ∧ (s 0).smcr.extractLsb' 1 3 = 0 ∧ (s 0).flag bitI = false ∧
      (s 2).smcr.extractLsb' 1 3 ≠ 0 ∧ (s 14).smcr.extractLsb' 1 3 ≠ 0 := by decide
theorem witness_HiddenStateWriters : ∃ t, exec (.bset 7) State.reset = .next t ∧ t.halted = none ∧ t.irqInhibit = true :=
  ⟨_, rfl, by decide, by decide⟩
theorem witness_StepCostsAreDocumented :
    (∃ t, exec .reti (stacked 0 1) = .next t ∧ t.halted = none) ∧ (∃ t, exec .brk State.reset = .next t ∧ t.halted.isSome) ∧
      (∃ t, step State.reset = .next t ∧ t.halted = none) := ⟨⟨_, rfl, by decide⟩, ⟨_, rfl, by decide⟩, ⟨_, rfl, by decide⟩⟩
theorem witness_ExecuteConsumesCycles : ∃ t, execute 1 State.reset = .next t ∧ t.halted = none := ⟨_, rfl, by decide⟩
theorem witness_step_invariants : State.reset.memoryOk = true ∧ State.reset.reservedClear = true ∧
    State.reset.hiddenOk = true ∧ ∃ t, step State.reset = .next t := ⟨by decide, by decide, by decide, _, rfl⟩
theorem witness_PeripheralTimeFrame : State.reset.portB.ddr.getLsbD 1 = false ∧ (0 : Nat) ∉ [1, 2] ∧ (7 : Nat) ∉ [5, 6] := by
  decide
theorem witness_upper_registers : 16 ≤ (16 : BitVec 5).toNat ∧ 16 ≤ (31 : BitVec 5).toNat ∧ ¬ 16 ≤ (15 : BitVec 5).toNat := by
  decide
theorem witness_Multiplications : 16 ≤ (16 : BitVec 5).toNat ∧ (16 : BitVec 5).toNat ≤ 23 ∧ 16 ≤ (23 : BitVec 5).toNat ∧
    (23 : BitVec 5).toNat ≤ 23 := by decide
theorem witness_WordImmediates : 24#5 ∈ [24#5, 26#5, 28#5, 30#5] ∧ 30#5 ∈ [24#5, 26#5, 28#5, 30#5] := by decide
theorem witness_IoBitWrites : Memory.wf State.reset.mem = true ∧ Memory.wf (State.reset.setRam 0x20 1).mem = true := by decide
theorem witness_JumpsAndBranches : (0xFFFF : BitVec 22).toNat < 0x10000 ∧ ¬ (0x10000 : BitVec 22).toNat < 0x10000 := by decide
theorem witness_Calls : pushable (stackAt 0x08FF) ∧ (0xFFFF : BitVec 22).toNat < 0x10000 := ⟨witness_pushable.1, by decide⟩
theorem witness_Returns : poppable (stackAt 0x08FD) ∧ poppable (stackAt 0x00FF) ∧ poppable (stackAt 0x001F) :=
  ⟨⟨by decide, by decide, by decide, by decide⟩, ⟨by decide, by decide, by decide, by decide⟩,
    ⟨by decide, by decide, by decide, by decide⟩⟩
theorem witness_StackOutsidePlainBytes :
    (1 ≤ (stackAt 1).sp.toNat ∧ (stackAt 31).sp.toNat ≤ 31) ∧
      (((stackAt 0xFFFF).sp + 1).toNat = 0 ∧ ((stackAt 29).sp + 1).toNat = 30) ∧
      (pushesTwice (stackAt 0x5C) ∧ pushesTwice (stackAt 0x5F)) ∧
      ((stackAt 0x08FD).sp + 1).toNat = 0x08FE ∧ ((stackAt 0xFFFF).sp + 1).toNat ≤ 0x08FE := by unfold pushesTwice; decide
theorem witness_StackOutsidePlainBytes_runs :
    (exec .ret ((stackAt 0xFFFF).setReg 1 5) = .next (((stackAt 1).setReg 1 5).goto 5 4)) ∧
      goes 0xD000 (stackAt 1) = (1, 3) ∧ goes 0xD000 (stackAt 31) = (1, 3) := ⟨rfl, by decide, by decide⟩
theorem witness_RegisterMoves : (30 : BitVec 5).toNat % 2 = 0 ∧ (0 : BitVec 5).toNat % 2 = 0 := by decide
/-- The three pointers at the last and the first data address, and with a displacement that wraps to the first one. -/
theorem witness_LoadsWithoutUpdate :
    dataValid ((pointing .x 0x08FF).reg 27 ++ (pointing .x 0x08FF).reg 26) = true ∧
      dataValid (((pointing .y 0x08C0).reg 29 ++ (pointing .y 0x08C0).reg 28) + (63 : BitVec 6).setWidth 16) = true ∧
      dataValid (((pointing .z 0xFFC1).reg 31 ++ (pointing .z 0xFFC1).reg 30) + (63 : BitVec 6).setWidth 16) = true ∧
      dataValid 0x08FF = true ∧ dataValid 0 = true := by decide
theorem witness_LoadsWithUpdate : 25#5 ∉ [26#5, 27#5] ∧ 30#5 ∉ [28#5, 29#5] ∧ 29#5 ∉ [30#5, 31#5] ∧
    dataValid ((pointing .x 0x08FF).reg 27 ++ (pointing .x 0x08FF).reg 26) = true ∧
    dataValid (((pointing .x 0x0900).reg 27 ++ (pointing .x 0x0900).reg 26 : Word) - 1) = true ∧
    dataValid ((pointing .y 0).reg 29 ++ (pointing .y 0).reg 28) = true ∧
    dataValid (((pointing .y 1).reg 29 ++ (pointing .y 1).reg 28 : Word) - 1) = true ∧
    dataValid ((pointing .z 0x08FF).reg 31 ++ (pointing .z 0x08FF).reg 30) = true ∧
    dataValid (((pointing .z 1).reg 31 ++ (pointing .z 1).reg 30 : Word) - 1) = true := by decide
/-- A store to a cell, to a register and to an I/O register. -/
theorem witness_StoresWithoutUpdate : storable (pointing .x 0x08FF) ((pointing .x 0x08FF).ptr .x) ∧
    storable State.reset 0x1F ∧ storable State.reset 0x5F ∧ route 0x08FF = .cell ∧ route 0x1F = .register 31 ∧
    route 0x5F = .io .sreg := ⟨⟨by decide, by decide⟩, ⟨by decide, by decide⟩, ⟨by decide, by decide⟩, by decide, by decide, by decide⟩
theorem witness_StoresWithUpdate :
    storable (pointing .x 0x08FF) ((pointing .x 0x08FF).reg 27 ++ (pointing .x 0x08FF).reg 26) ∧
      storable (pointing .x 0x0900) ((pointing .x 0x0900).ptr .x - 1) ∧
      storable (pointing .y 0x001A) ((pointing .y 0x001A).reg 29 ++ (pointing .y 0x001A).reg 28) ∧
      storable (pointing .y 1) ((pointing .y 1).ptr .y - 1) ∧
      storable (pointing .z 0x001F) ((pointing .z 0x001F).reg 31 ++ (pointing .z 0x001F).reg 30) ∧
      storable (pointing .z 0x0060) ((pointing .z 0x0060).ptr .z - 1) :=
  ⟨⟨by decide, by decide⟩, ⟨by decide, by decide⟩, ⟨by decide, by decide⟩, ⟨by decide, by decide⟩, ⟨by decide, by decide⟩,
    ⟨by decide, by decide⟩⟩
theorem witness_ProgramMemoryLoads : ((pointing .z 0x7FFF).reg 31 ++ (pointing .z 0x7FFF).reg 30).toNat < 32768 ∧
    32768 ≤ ((pointing .z 0x8000).reg 31 ++ (pointing .z 0x8000).reg 30).toNat ∧ 29#5 ∉ [30#5, 31#5] := by decide
theorem witness_PushAndPop : storable (stackAt 0x08FF) (stackAt 0x08FF).sp ∧ storable (stackAt 0) (stackAt 0).sp ∧
    storable (stackAt 0x5D) (stackAt 0x5D).sp ∧ dataValid ((stackAt 0x08FE).sp + 1) = true ∧
    dataValid ((stackAt 0xFFFF).sp + 1) = true ∧ route 0 = .register 0 ∧ route 0x5D = .io .spl :=
  ⟨⟨by decide, by decide⟩, ⟨by decide, by decide⟩, ⟨by decide, by decide⟩, by decide, by decide, by decide, by decide⟩
theorem witness_DataAddressFaults : 0x08FF < ((pointing .x 0x0900).reg 27 ++ (pointing .x 0x0900).reg 26).toNat ∧
    0x08FF < ((State.reset.reg 27 ++ State.reset.reg 26 : Word) - 1).toNat ∧ 0x08FF < (State.reset.sp + 1).toNat ∧
    0x08FF < (stackAt 0x0900).sp.toNat ∧ (stackAt 0x08FE).sp = 0x08FE ∧ (stackAt 0).sp = 0 ∧
    (0xFFFF : BitVec 22).toNat < 0x10000 ∧ (Instr.ldXInc 0).wellFormed = true := by decide
theorem witness_DataSpaceReadAfterWrite : (31 : Word).toNat ≤ 31 ∧ ioRegAt 0x20 = none ∧ ioRegAt 0xFF = none ∧
    (0x0100 : Word).toNat ≤ 0x08FF ∧ (0x08FF : Word).toNat ≤ 0x08FF ∧ Memory.wf State.reset.mem = true := by decide
/-- Timer0 with the mode bits `a` and `b`, counting every cycle, OCR0A = `ocr`. -/
def timing0 (a b ocr : Byte) : State :=
  { State.reset with timer0 := { State.reset.timer0 with tccrA := a, tccrB := b, ocrABuf := ocr, ocrAAct := ocr } }
/-- Timer1 in the same way. -/
def timing1 (a b : Byte) (ocr : Word) : State :=
  { State.reset with timer1 := { State.reset.timer1 with tccrA := a, tccrB := b, ocrABuf := ocr, ocrAAct := ocr } }
theorem witness_IoRegisterTable : (timing0 0 1 0).timer0.mode0.isPwm = false ∧ (timing0 3 1 0).timer0.mode0.isPwm = true := by
  decide
theorem witness_SixteenBitAccess : (timing1 0 0x18 0).timer1.wgm1.toNat ∈ [8, 10, 12, 14] ∧
    (timing1 0 0x18 0).timer1.wgm1.toNat ∈ [0, 4, 12, 13] ∧ (timing1 3 0x18 0).timer1.wgm1.toNat ∉ [0, 4, 12, 13] := by decide
theorem witness_PinLevelsAndReadAfterWrite : ((State.reset.writeAt 0x24 0xFF).portOf .b).ddr = 0xFF ∧
    ((State.reset.writeAt 0x24 0xFF).portOf .b).ddr.getLsbD 7 = true ∧ (State.reset.portOf .c).ddr.getLsbD 0 = false := by decide
theorem witness_PinActionWritesPort : ((State.reset.writeAt 0x2A 0x40).portOf .d).ddr.getLsbD 6 = true ∧
    (State.reset.portOf .d).ddr.getLsbD 6 = false ∧ (timing0 0x83 1 0).timer0.mode0.kind ≠ .reserved ∧
    (timing1 0x43 0x19 0).timer1.mode1.kind ≠ .reserved := by decide
/-- The three clauses of Timer0's property, at the slowest and the fastest clock. -/
theorem witness_Timer0OverflowTime : (fresh0 (timing0 0x40 1 0) ∧ (timing0 0x40 1 0).timer0.wgm0 = 0) ∧
    (fresh0 (timing0 0x43 0x0D 255) ∧ (timing0 0x43 0x0D 255).timer0.wgm0 = 7) ∧
    (let s := (timing0 0x42 5 9).writeAt 0x2A 0x40
     fresh0 s ∧ s.timer0.wgm0 = 2 ∧ s.timer0.com .a = 1 ∧ s.portD.ddr.getLsbD 6 = true) := by unfold fresh0; decide
theorem witness_Timer1OverflowTime : (fresh1 (timing1 0x40 1 0) ∧ (timing1 0x40 1 0).timer1.wgm1 = 0) ∧
    (fresh1 (timing1 0x43 0x1D 0xFFFF) ∧ (timing1 0x43 0x1D 0xFFFF).timer1.wgm1 = 15) ∧
    (let s := (timing1 0x40 0x0D 9).writeAt 0x24 0x02
     fresh1 s ∧ s.timer1.wgm1 = 4 ∧ s.timer1.com .a = 1 ∧ s.portB.ddr.getLsbD 1 = true) := by unfold fresh1; decide
theorem witness_CompareMatchSetsFlag : State.reset.timer0.mode0.kind ≠ .reserved ∧ State.reset.timer1.mode1.kind ≠ .reserved ∧
    (timing0 3 1 0).timer0.mode0.kind ≠ .reserved := by decide
theorem witness_DualSlopePeriod :
    let t := { (timing1 1 0x10 1).timer1 with dir := .down }
    let u := { (timing0 1 9 1).timer0 with dir := .down }
    (t.mode1.isDual = true ∧ t.dir = .down ∧ t.count = 0 ∧ t.ocrABuf = t.ocrAAct ∧ 1 ≤ (t.topVal t.mode1 0).toNat) ∧
    (u.mode0.isDual = true ∧ u.dir = .down ∧ u.count = 0 ∧ u.ocrABuf = u.ocrAAct ∧ (u.topVal u.mode0 0).toNat = 1) := by decide
/-- The strobes of a TCCR0B write act in CTC mode, and not in the fast mode the same write selects. -/
theorem witness_ForceOutputCompare :
    (((timing0 0xC2 0 0).writeAt 0x2A 0xFF).writeAt 0x45 0x80).portD.port = 0x40 ∧
      (((timing0 0xC3 0 0).writeAt 0x2A 0xFF).writeAt 0x45 0x88).portD.port = 0 ∧
      (((timing1 0xF0 0 0).writeAt 0x24 0xFF).writeAt 0x82 0xC0).portB.port = 0x06 := by decide
theorem witness_InputCapture :
    let s (b : Byte) (n : Nat) : State := { timing1 0 b 0 with icpLevel := some .low, icpCount := n }
    State.reset.timer1.mode1.icrCaptures = true ∧ State.reset.icpLevel = none ∧ (s 0x80 3).timer1.mode1.icrCaptures = true ∧
      (s 0x80 3).timer1.tccrB.getLsbD 7 = true ∧ 3 ≤ (s 0x80 3).icpCount ∧ (s 0x80 2).icpCount < 3 ∧
      (s 0x40 0).timer1.tccrB.getLsbD 7 = false ∧ Level.low ≠ Level.high := by decide
theorem witness_ReservedModeHalts : (timing0 0 9 0).timer0.wgm0 = 4 ∧ (timing0 2 9 0).timer0.wgm0 = 6 ∧
    (timing1 1 0x19 0).timer1.wgm1 = 13 ∧ ((timing0 0 9 0).timer0.tickDue .low).2 = true ∧
    ((timing0 0 10 0).timer0.tickDue .low).2 = false ∧ ((timing1 1 0x19 0).timer1.tickDue .low).2 = true ∧
    (timing1 1 0x18 0).timer1.cs = 0 := by decide
/-- Every clock select, the external ones at their edge; and the three pins of a cycle with their levels known. -/
theorem witness_ReservedModeHalts_clock : (timing0 0 0 0).timer0.cs = 0 ∧
    (1 ≤ (timing0 0 1 0).timer0.cs.toNat ∧ (timing0 0 5 0).timer0.cs.toNat ≤ 5) ∧
    ((timing0 0 6 0).timer0.cs = 6 ∧ ({ (timing0 0 6 0).timer0 with extClkPrev := some .high }.tickDue .low).2 = true) ∧
    ((timing1 0 7 0).timer1.cs = 7 ∧ ({ (timing1 0 7 0).timer1 with extClkPrev := some .low }.tickDue .high).2 = true) ∧
    (let s := (State.reset.writeAt 0x25 0x01).writeAt 0x2B 0x30
     s.portB.level 0 = some .high ∧ s.portD.level 4 = some .high ∧ s.portD.level 5 = some .high) := by decide
theorem witness_RecordBytesLandInOrder : Memory.wf [] = true ∧ 32767 + [(0xAB : Byte)].length ≤ 32768 ∧
    32768 < 32767 + [(0xAB : Byte), 0xCD].length := by decide
/-- A data record, at the ends of its address and count, and a line the loader skips of each sort. -/
theorem witness_RecordBytesLandInOrder_text :
    recordLine 0x0010 [0x0C, 0x94] "5A".toList = ":020010000C945A".toList ∧
      recordLine 0xFFFF [] "00".toList = ":00FFFF0000".toList ∧ '\n' ∉ ":020010000C945A".toList ∧
      '\n' ∉ ":00FFFF0000".toList ∧
      (skippedLine [] ∧ skippedLine ":00000001FF".toList ∧ skippedLine ":0G0000000C".toList ∧
        skippedLine ":020000000C9".toList ∧ skippedLine ":01000000G0".toList) :=
  ⟨by decide, by decide, by decide, by decide, .inl (by decide), .inr (.inl (by decide)),
    .inr (.inr (.inl ⟨2, 'G', by decide, by decide, by decide, by unfold notHex; decide⟩)),
    .inr (.inr (.inr ⟨2, by decide, by decide, .inl (by decide)⟩)),
    .inr (.inr (.inr ⟨1, by decide, by decide, .inr ⟨9, 'G', by decide, by decide, by decide, by unfold notHex; decide⟩⟩))⟩
/-- A text whose one record loads, and one whose record passes the end of program memory. -/
theorem witness_RecordBytesLandInOrder_load : loadImage ":020010000C945A\n".toList = some [⟨0x10, 0x0C⟩, ⟨0x11, 0x94⟩] ∧
    loadImage ":018000000C".toList = none := by decide
theorem witness_ConstructFromWords : 16384 < (List.replicate 16385 (0 : Word)).length ∧
    (List.replicate 16384 (0 : Word)).length ≤ 16384 := by simp only [List.length_replicate]; decide

end Sys2Proof.Tests
end

section
/-! PROOFS. The data space (R31 10_state.md, R110 to R112 20_memory.md): what stands at an address, and read after
write. -/

namespace Sys2Proof.Machine

/-! ### What stands at a data address -/

/-- R31: the register file is the data addresses 0..31. -/
theorem route_register {a : Word} (h : a.toNat ≤ 31) : route a = .register (BitVec.ofNat 5 a.toNat) := by
  have hlow : a.extractLsb' 0 5 = BitVec.ofNat 5 a.toNat := by
    apply BitVec.eq_of_toNat_eq
    simp
  rw [route, if_pos h, hlow]

/-- A plain cell or an SRAM byte: past the register file, with no block-owned register. -/
theorem route_cell {a : Word} (hlo : 0x20 ≤ a.toNat) (hio : ioRegAt a = none) : route a = .cell := by
  rw [route, if_neg (by omega), hio]

/-- The table of R60 ends at OCR1BH. -/
theorem ioTable_address_le : ∀ e ∈ ioTable, e.1.toNat ≤ 0x8B := by decide

theorem ioRegAt_none_past_table {a : Word} (h : 0x8B < a.toNat) : ioRegAt a = none := by
  refine List.lookup_eq_none_iff.mpr fun e he => bne_iff_ne.mpr fun hae => ?_
  have hle := ioTable_address_le e he
  rw [hae] at h
  omega

/-- The two sorts of byte the model stores: SRAM from 0x0100, and the plain cells below it. -/
theorem route_plain {a : Word} (h : 0x0100 ≤ a.toNat ∨ (0x20 ≤ a.toNat ∧ ioRegAt a = none)) : route a = .cell := by
  rcases h with hsram | ⟨hlo, hio⟩
  · exact route_cell (by omega) (ioRegAt_none_past_table (by omega))
  · exact route_cell hlo hio

/-! ### Read after write -/

theorem State.readAt_writeAt_cell (s : State) {a : Word} (h : route a = .cell) (hm : Memory.wf s.mem = true) (v : Byte) :
    ((s.writeAt a v).readAt a).1 = v := by
  rw [State.readAt_cell _ h, State.writeAt_cell s h]
  exact State.setRam_ram_same s hm a v

theorem State.writeAt_cell_frame (s : State) {a : Word} (h : route a = .cell) (v : Byte) :
    s.writeAt a v = { s with mem := (s.writeAt a v).mem } := by
  rw [State.writeAt_cell s h]
  rfl

/-- Settles O47: by what stands at the address, a register or a plain byte. -/
theorem dataSpaceReadAfterWrite : Obligations.DataSpaceReadAfterWrite := by
  intro s a v
  refine ⟨fun hreg => ?_, fun _ hplain hm => ?_⟩
  · have hroute := route_register hreg
    rw [State.readAt_register s hroute]
    exact ⟨rfl, rfl, State.writeAt_register s hroute v⟩
  · have hroute := route_plain hplain
    refine ⟨?_, State.readAt_writeAt_cell s hroute hm v, fun b hb => State.writeAt_ram_ne s hb v,
      State.writeAt_cell_frame s hroute v⟩
    rw [State.readAt_cell s hroute]

end Sys2Proof.Machine
end

section
/-! PROOFS. The state after reset (R60 and R82 10_state.md, R500 70_reset_and_hazards.md): both resets are one form of
state, and each part of it is read off that form. -/

namespace Sys2Proof.Machine

/-! ### The form of a state after reset -/

/-- The reset state with program memory `p` and `k` values drawn: what either reset leaves. -/
def State.restarted (p : Memory) (k : Nat) : State := { State.reset with prog := p, draws := k }

/-- Construction's reset and the host's both answer that form. -/
theorem eq_restarted {s r : State} (h : r = State.reset ∨ r = s.hostReset) : ∃ p k, r = State.restarted p k := by
  rcases h with rfl | rfl
  · exact ⟨[], 0, rfl⟩
  · exact ⟨s.prog, s.draws, rfl⟩

theorem State.restarted_portOf (p : Memory) (k : Nat) (q : PortId) : (State.restarted p k).portOf q = Port.reset := by
  cases q <;> rfl

/-! ### The parts of that form -/

theorem Port.reset_ext (n : Fin 8) : Port.reset.ext.get n = none := by
  simp [Port.reset, Vector.get]

/-- R481: an input with no pull-up and no injected level floats. -/
theorem Port.reset_level (n : Fin 8) : Port.reset.level n = none := by
  have hddr : Port.reset.ddr.getLsbD n = false := BitVec.getLsbD_zero
  have hport : Port.reset.port.getLsbD n = false := BitVec.getLsbD_zero
  simp only [Port.level, hddr, hport, Port.reset_ext, Bool.false_eq_true, if_false]

theorem timerCleared_reset (n : Nat) : Claim.timerCleared (Timer.reset n) :=
  ⟨rfl, rfl, rfl, rfl, rfl, rfl, rfl, rfl, rfl, rfl, rfl, rfl, rfl⟩

/-- The block-owned registers whose reset value is 0 and whose read is not a pin level: all but PINx and SP's halves. -/
def IoReg.zeroAtReset : IoReg → Bool
  | .pin _ | .spl | .sph => false
  | _ => true

/-- Such a register stands here. -/
def Place.zeroAtReset : Place → Bool
  | .io r => r.zeroAtReset
  | _ => false

theorem State.restarted_readIo (p : Memory) (k : Nat) {r : IoReg} (h : r.zeroAtReset = true) :
    ((State.restarted p k).readIo r).1 = 0 := by
  cases r with
  | pin | spl | sph => cases h
  | ddr q | port q => cases q <;> rfl
  | ocr0 x => cases x <;> rfl
  | ocr1l x | ocr1h x => cases x <;> exact BitVec.extractLsb'_zero
  | tifr0 | tifr1 | tccr0a | tccr0b | smcr | timsk0 | timsk1 | tccr1a | tccr1b => exact BitVec.zero_and
  | tcnt0 | sreg | tccr1c | tcnt1l | tcnt1h | icr1l | icr1h => rfl

theorem State.restarted_readAt (p : Memory) (k : Nat) {a : Word} (h : (route a).zeroAtReset = true) :
    ((State.restarted p k).readAt a).1 = 0 := by
  cases hroute : route a with
  | io r =>
    rw [hroute] at h
    rw [State.readAt_io _ hroute]
    exact State.restarted_readIo p k h
  | register | cell => rw [hroute] at h; cases h

/-- The same for a list of addresses that evaluates to such registers. -/
theorem State.restarted_readAt_all (p : Memory) (k : Nat) {as : List Word}
    (h : (as.all fun a => (route a).zeroAtReset) = true) :
    ∀ a ∈ as, ((State.restarted p k).readAt a).1 = 0 :=
  fun a ha => State.restarted_readAt p k (List.all_eq_true.mp h a ha)

theorem State.reset_progWord {w : Word} (h : w.toNat < Config.pmWords) : State.reset.progWord w = some 0 := by
  have hflash (b : Nat) : State.reset.flash b = 0 := rfl
  rw [State.progWord, if_pos h, hflash, hflash]
  rfl

/-! ### SPL and SPH are SP's halves in every state (R45) -/

theorem State.readAt_spl (s : State) : (s.readAt 0x5D).1 = lowByte s.sp := rfl
theorem State.readAt_sph (s : State) : (s.readAt 0x5E).1 = highByte s.sp := rfl
theorem State.writeAt_spl_sp (s : State) (v : Byte) : (s.writeAt 0x5D v).sp = highByte s.sp ++ v := rfl
theorem State.writeAt_sph_sp (s : State) (v : Byte) : (s.writeAt 0x5E v).sp = v ++ lowByte s.sp := rfl

/-! ### The first step -/

/-- With interrupts off no source is due (R422). -/
theorem State.dueSource_of_iFlag_clear {s : State} (h : s.iFlag = false) : s.dueSource = none := by
  simp [State.dueSource, h]

/-- An awake block with no interrupt due takes an instruction step (R502). -/
theorem step_eq_instructionStep {s : State} (hh : s.halted = none) (hs : s.sleeping = false) (hd : s.dueSource = none) :
    step s = s.instructionStep := by
  simp [step, State.stepOnce, hh, hs, hd]

/-- Settles O21: both resets leave the form `State.restarted`, whose parts are the lemmas above. -/
theorem resetState : Obligations.ResetState := by
  intro s r v hr
  obtain ⟨p, k, rfl⟩ := eq_restarted hr
  have hsp : (State.restarted p k).sp = 0x08FF := rfl
  have hoff : (State.restarted p k).iFlag = false := BitVec.getLsbD_zero
  have hdue := State.dueSource_of_iFlag_clear hoff
  refine ⟨rfl, rfl, hsp, rfl, rfl, rfl, rfl, rfl, rfl, rfl, rfl, rfl, fun q => ?ports, fun _ _ _ => rfl,
    timerCleared_reset 8, timerCleared_reset 16, State.restarted_readAt_all p k (by decide), ?spl, ?sph,
    State.readAt_spl s, State.readAt_sph s, State.writeAt_spl_sp s v, State.writeAt_sph_sp s v, hdue,
    step_eq_instructionStep rfl rfl hdue, rfl, fun w hw => State.reset_progWord hw⟩
  case ports =>
    rw [State.restarted_portOf]
    exact ⟨rfl, rfl, fun n => ⟨Port.reset_ext n, Port.reset_level n⟩⟩
  case spl => rw [State.readAt_spl, hsp]; decide
  case sph => rw [State.readAt_sph, hsp]; decide

end Sys2Proof.Machine
end

section
/-! PROOFS. The 16-bit registers of Timer1 (R118 20_memory.md): the modes that use ICR1 as TOP and the modes that update
a compare value at once, and each access through TEMP1. -/

namespace Sys2Proof.Machine

/-! ### The columns of R460 that decide a write -/

theorem Timer.mode1_icrIsTop (t : Timer 16) : t.mode1.icrIsTop = true ↔ t.wgm1.toNat ∈ [8, 10, 12, 14] := by
  have table : ∀ w : BitVec 4, (waveModes1.getD w.toNat (WaveMode.reserved 16)).icrIsTop = true ↔
      w.toNat ∈ [8, 10, 12, 14] := by decide
  exact table t.wgm1

theorem Timer.mode1_isPwm (t : Timer 16) : t.mode1.isPwm = true ↔ t.wgm1.toNat ∉ [0, 4, 12, 13] := by
  have table : ∀ w : BitVec 4, (waveModes1.getD w.toNat (WaveMode.reserved 16)).isPwm = true ↔
      w.toNat ∉ [0, 4, 12, 13] := by decide
  exact table t.wgm1

/-- The active value after a compare write: the new one at once outside the PWM modes. -/
theorem Timer.mode1_activeAfterWrite (t : Timer 16) (old new : Word) :
    (if t.mode1.isPwm then old else new) = if t.wgm1.toNat ∈ [0, 4, 12, 13] then new else old := by
  simp only [Timer.mode1_isPwm, ite_not]

/-! ### Writes -/

/-- A write of any of the four high addresses stores TEMP1 and nothing else. -/
theorem State.writeAt_timer1_high (s : State) (hi : Byte) :
    ∀ a ∈ [0x85#16, 0x87#16, 0x89#16, 0x8B#16], s.writeAt a hi = { s with temp1 := hi } := by
  simp only [List.forall_mem_cons]
  exact ⟨rfl, rfl, rfl, rfl, List.forall_mem_nil _⟩

theorem State.writeAt_icr1l (s : State) (lo : Byte) : s.writeAt 0x86 lo =
    if s.timer1.wgm1.toNat ∈ [8, 10, 12, 14] then { s with icr1 := s.temp1 ++ lo } else s := by
  have hroute : route 0x86 = .io .icr1l := by decide
  rw [State.writeAt_io s hroute]
  simp only [State.writeIo, Timer.mode1_icrIsTop]
  split <;> rfl

theorem State.writeAt_ocr1al (s : State) (lo : Byte) : s.writeAt 0x88 lo = { s with timer1 := { s.timer1 with
    ocrABuf := s.temp1 ++ lo
    ocrAAct := if s.timer1.wgm1.toNat ∈ [0, 4, 12, 13] then s.temp1 ++ lo else s.timer1.ocrAAct } } := by
  have hroute : route 0x88 = .io (.ocr1l .a) := by decide
  rw [State.writeAt_io s hroute, State.writeIo, Timer.writeOcr, Timer.mode1_activeAfterWrite]

theorem State.writeAt_ocr1bl (s : State) (lo : Byte) : s.writeAt 0x8A lo = { s with timer1 := { s.timer1 with
    ocrBBuf := s.temp1 ++ lo
    ocrBAct := if s.timer1.wgm1.toNat ∈ [0, 4, 12, 13] then s.temp1 ++ lo else s.timer1.ocrBAct } } := by
  have hroute : route 0x8A = .io (.ocr1l .b) := by decide
  rw [State.writeAt_io s hroute, State.writeIo, Timer.writeOcr, Timer.mode1_activeAfterWrite]

/-- Settles O49: the reads and the write of TCNT1 are the table's rows themselves; the writes that depend on the mode are
the lemmas above. -/
theorem sixteenBitAccess : Obligations.SixteenBitAccess := by
  intro s hi lo
  exact ⟨rfl, rfl, rfl, rfl, rfl, rfl, rfl, rfl, rfl, rfl, s.writeAt_timer1_high hi, rfl, s.writeAt_icr1l lo,
    s.writeAt_ocr1al lo, s.writeAt_ocr1bl lo, rfl⟩

end Sys2Proof.Machine
end

section
/-! PROOFS. SBI and CBI (R116 20_memory.md, R351 and R352 43_bit.md): what stands at the addresses they reach, what
`IoWriteBit` writes there, and the bits it leaves. -/

namespace Sys2Proof.Machine

open Claim

/-! ### The addresses SBI and CBI reach -/

theorem ioAddrLow_eq_ofNat (a : BitVec 5) : ioAddrLow a = BitVec.ofNat 16 (a.toNat + 0x20) := by
  apply BitVec.eq_of_toNat_eq
  simp [ioAddrLow]

theorem ioAddrLow_ge (a : BitVec 5) : 0x20 ≤ (ioAddrLow a).toNat := by
  rw [ioAddrLow_eq_ofNat, BitVec.toNat_ofNat]
  omega

/-- A block-owned register: past the register file, by the table of R60. -/
theorem route_io {a : Word} {r : IoReg} (hlo : 0x20 ≤ a.toNat) (hio : ioRegAt a = some r) : route a = .io r := by
  rw [route, if_neg (by omega), hio]

/-- The registers at which a written 1 acts on its bit alone and a 0 does nothing: TIFRx and PINx (R116). -/
def IoReg.actsOnOnes : IoReg → Bool
  | .tifr0 | .tifr1 | .pin _ => true
  | _ => false

/-- The registers the model keeps as one plain byte of a port: DDRx and PORTx. -/
def IoReg.isPortByte : IoReg → Bool
  | .ddr _ | .port _ => true
  | _ => false

/-- The first 32 I/O addresses hold no register but those two sorts. -/
theorem ioRegAt_ioAddrLow {a : BitVec 5} {r : IoReg} (h : ioRegAt (ioAddrLow a) = some r) :
    r.actsOnOnes = true ∨ r.isPortByte = true := by
  have table : ∀ a : BitVec 5,
      (ioRegAt (ioAddrLow a)).all (fun r => r.actsOnOnes || r.isPortByte) = true := by decide
  have hr := table a
  rw [h] at hr
  exact Bool.or_eq_true_iff.mp hr

/-! ### What `IoWriteBit` writes -/

/-- No bit set is the zero byte. -/
theorem setBit_zero_false (i : Nat) : setBit (0 : Byte) i false = 0 := BitVec.zero_and

/-- A flag write of no bits clears nothing. -/
theorem clearFlags_zero (f mask : Byte) : f &&& ~~~(0 &&& mask) = f := by
  have hnone : (0 : Byte) &&& mask = 0 := BitVec.zero_and
  rw [hnone]
  exact BitVec.and_allOnes

/-- Writing 0 to TIFRx or PINx does nothing. -/
theorem State.writeIo_zero (s : State) {r : IoReg} (h : r.actsOnOnes = true) : s.writeIo r 0 = s := by
  cases r with
  | tifr0 | tifr1 => simp only [State.writeIo, clearFlags_zero]
  | pin p => cases p <;> simp [State.writeIo, State.setPort, State.portOf, Port.toggle]
  | _ => cases h

/-- TIFRx and PINx: the byte written has the one bit `v`. -/
theorem State.ioWriteBit_actsOnOnes (s : State) {a : Word} {r : IoReg} (hr : ioRegAt a = some r)
    (h : r.actsOnOnes = true) (b : BitVec 3) (v : Bool) : s.ioWriteBit a b v = s.writeIo r (setBit 0 b.toNat v) := by
  have hwrite : s.ioWriteBit a b v = if v then s.writeIo r (setBit 0 b.toNat true) else s := by
    cases r with
    | tifr0 | tifr1 | pin => rw [State.ioWriteBit, hr]
    | _ => cases h
  rw [hwrite]
  cases v with
  | true => rfl
  | false => rw [setBit_zero_false, State.writeIo_zero s h]; rfl

/-- DDRx and PORTx: read, modify, write. -/
theorem State.ioWriteBit_portByte (s : State) {a : Word} {r : IoReg} (hlo : 0x20 ≤ a.toNat) (hr : ioRegAt a = some r)
    (h : r.isPortByte = true) (b : BitVec 3) (v : Bool) :
    s.ioWriteBit a b v = s.writeIo r (setBit (s.readIo r).1 b.toNat v) := by
  have hroute := route_io hlo hr
  cases r with
  | ddr | port => rw [State.ioWriteBit, hr]; simp only [State.readAt_io _ hroute, State.writeAt_io _ hroute]; rfl
  | _ => cases h

/-- A plain cell: read, modify, write. -/
theorem State.ioWriteBit_cell (s : State) {a : Word} (hlo : 0x20 ≤ a.toNat) (hr : ioRegAt a = none) (b : BitVec 3)
    (v : Bool) : s.ioWriteBit a b v = s.setRam a (setBit (s.ram a) b.toNat v) := by
  have hroute := route_cell hlo hr
  rw [State.ioWriteBit, hr]
  simp only [State.readAt_cell _ hroute, State.writeAt_cell _ hroute]

@[simp] theorem State.ioWriteBit_pc (s : State) (a : Word) (b : BitVec 3) (v : Bool) :
    (s.ioWriteBit a b v).pc = s.pc := by
  unfold State.ioWriteBit
  split
  case h_4 => simp
  all_goals cases v <;> simp

@[simp] theorem State.ioWriteBit_cycles (s : State) (a : Word) (b : BitVec 3) (v : Bool) :
    (s.ioWriteBit a b v).cycles = s.cycles := by
  unfold State.ioWriteBit
  split
  case h_4 => simp
  all_goals cases v <;> simp

/-! ### The bits left -/

theorem getLsbD_setBit_of_lt {n : Nat} (x : BitVec n) (i : Nat) {j : Nat} (hj : j < n) (v : Bool) :
    (setBit x i v).getLsbD j = if j = i then v else x.getLsbD j := by
  simp only [getLsbD_setBit, hj, and_true]

theorem getLsbD_setBit_zero (i : Nat) {j : Nat} (hj : j < 8) (v : Bool) :
    (setBit (0 : Byte) i v).getLsbD j = (v && decide (j = i)) := by
  rw [getLsbD_setBit_of_lt _ _ hj]
  split <;> simp [*]

/-- Flags cleared by a write of one bit: that flag, where it is implemented. -/
theorem getLsbD_clearFlag (f mask : Byte) (i : Nat) {j : Nat} (hj : j < 8) (v : Bool) :
    (f &&& ~~~(setBit 0 i v &&& mask)).getLsbD j = (f.getLsbD j && !(v && decide (j = i) && mask.getLsbD j)) := by
  rw [BitVec.getLsbD_and, BitVec.getLsbD_not, BitVec.getLsbD_and, getLsbD_setBit_zero i hj, decide_eq_true hj,
    Bool.true_and]

theorem maskFlags0_getLsbD : ∀ j < 8, maskFlags0.getLsbD j = decide (j ∈ [0, 1, 2]) := by decide
theorem maskFlags1_getLsbD : ∀ j < 8, maskFlags1.getLsbD j = decide (j ∈ [0, 1, 2, 5]) := by decide

/-! ### The two instructions -/

theorem restKept_fall (s : State) (words : Word) (cost : Nat) : restKept s (s.fall words cost) :=
  ⟨rfl, rfl, rfl, rfl, rfl, rfl, rfl, rfl, rfl, rfl, rfl, rfl, rfl, rfl, rfl, rfl⟩

theorem allKept_fall (s : State) (words : Word) (cost : Nat) : allKept s (s.fall words cost) :=
  ⟨fun _ _ => rfl, rfl, fun _ => rfl, restKept_fall s words cost⟩

@[simp] theorem State.fall_portOf (s : State) (words : Word) (cost : Nat) (p : PortId) :
    (s.fall words cost).portOf p = s.portOf p := by
  cases p <;> rfl

/-- `IoWriteBit` and the fall-through, at each sort of address SBI and CBI reach. -/
theorem bitWritten_ioWriteBit (s : State) (hm : Memory.wf s.mem = true) (a : BitVec 5) (b : BitVec 3) (v : Bool) :
    bitWritten (ioAddrLow a) b v s ((s.ioWriteBit (ioAddrLow a) b v).fall 1 2) := by
  have hlo := ioAddrLow_ge a
  cases hr : ioRegAt (ioAddrLow a) with
  | none =>
    rw [State.ioWriteBit_cell s hlo hr]
    simp only [bitWritten, hr]
    refine ⟨fun _ _ => rfl, rfl, restKept_fall (s.setRam _ _) 1 2, fun x hx => State.setRam_ram_ne s hx _,
      fun j hj => ?_⟩
    rw [State.fall_ram, State.setRam_ram_same s hm, getLsbD_setBit_of_lt _ _ hj]
  | some r =>
    rcases ioRegAt_ioAddrLow hr with hones | hport
    · rw [State.ioWriteBit_actsOnOnes s hr hones]
      cases r with
      | tifr0 =>
        simp only [bitWritten, hr]
        refine ⟨allKept_fall _ 1 2, fun j hj => ?_⟩
        rw [← maskFlags0_getLsbD j hj]
        exact getLsbD_clearFlag s.timer0.tifr maskFlags0 b.toNat hj v
      | tifr1 =>
        simp only [bitWritten, hr]
        refine ⟨allKept_fall _ 1 2, fun j hj => ?_⟩
        rw [← maskFlags1_getLsbD j hj]
        exact getLsbD_clearFlag s.timer1.tifr maskFlags1 b.toNat hj v
      | pin p =>
        simp only [bitWritten, hr, State.writeIo, State.fall_portOf, State.setPort_portOf_same]
        refine ⟨allKept_fall _ 1 2, fun j hj => ?_⟩
        rw [Port.toggle, BitVec.getLsbD_xor, getLsbD_setBit_zero _ hj]
      | _ => cases hones
    · rw [State.ioWriteBit_portByte s hlo hr hport]
      cases r with
      | ddr p | port p =>
        simp only [bitWritten, hr, State.writeIo, State.fall_portOf, State.setPort_portOf_same]
        exact ⟨allKept_fall _ 1 2, fun j hj => getLsbD_setBit_of_lt _ _ hj v⟩
      | _ => cases hport

theorem ends_ioWriteBit (s : State) (a : Word) (b : BitVec 3) (v : Bool) :
    ends 1 2 s ((s.ioWriteBit a b v).fall 1 2) := by
  simp [ends]

/-- Settles O31: both instructions are `IoWriteBit` at A + 0x20 and the fall-through. -/
theorem ioBitWrites : Obligations.IoBitWrites := by
  intro s a b hm
  rw [← ioAddrLow_eq_ofNat]
  exact ⟨⟨rfl, _, rfl, ends_ioWriteBit s _ b true, bitWritten_ioWriteBit s hm a b true⟩,
    ⟨rfl, _, rfl, ends_ioWriteBit s _ b false, bitWritten_ioWriteBit s hm a b false⟩⟩

end Sys2Proof.Machine
end

section
/-! PROOFS. The row lookup of the decoder (R163 30_encoding.md): the rows of R185 are disjoint, so the row a word
matches is the row `findRow` finds. -/

namespace Sys2Proof

/-! ### Disjoint rows -/

/-- A word of both rows agrees with both patterns on the bits both rows fix. -/
theorem Row.patterns_agree {w : Word} {a b : Row} (ha : w &&& a.mask = a.pattern) (hb : w &&& b.mask = b.pattern) :
    a.pattern &&& b.mask = b.pattern &&& a.mask := by
  rw [← ha, ← hb, BitVec.and_assoc, BitVec.and_assoc, BitVec.and_comm a.mask]

/-- The patterns of any two rows differ in a bit both rows fix. -/
theorem opcodeRows_patterns_differ :
    opcodeRows.Pairwise fun a b => a.pattern &&& b.mask ≠ b.pattern &&& a.mask := by decide

theorem opcodeRows_disjoint :
    opcodeRows.Pairwise fun a b => ∀ w : Word, ¬ (w &&& a.mask = a.pattern ∧ w &&& b.mask = b.pattern) :=
  opcodeRows_patterns_differ.imp fun hne _ ⟨ha, hb⟩ => hne (Row.patterns_agree ha hb)

theorem opcodeRows_unique {w : Word} {a b : Row} (ha : a ∈ opcodeRows) (hb : b ∈ opcodeRows)
    (hwa : w &&& a.mask = a.pattern) (hwb : w &&& b.mask = b.pattern) : a = b := by
  by_contra hne
  have hsymm : Std.Symm fun a b : Row => a.pattern &&& b.mask ≠ b.pattern &&& a.mask := ⟨fun _ _ h => h.symm⟩
  exact opcodeRows_patterns_differ.forall ha hb hne (Row.patterns_agree hwa hwb)

/-! ### The lookup -/

theorem findRow_eq_none_iff {w : Word} : findRow w = none ↔ ∀ r ∈ opcodeRows, w &&& r.mask ≠ r.pattern := by
  simp [findRow]

/-- R163: the first row found is the only one, wherever it stands in the table. -/
theorem findRow_eq_some_iff {w : Word} {r : Row} :
    findRow w = some r ↔ r ∈ opcodeRows ∧ w &&& r.mask = r.pattern := by
  refine ⟨findRow_some, fun ⟨hr, hw⟩ => ?_⟩
  cases hf : findRow w with
  | none => exact absurd hw (findRow_eq_none_iff.mp hf r hr)
  | some r' =>
    obtain ⟨hr', hw'⟩ := findRow_some hf
    rw [opcodeRows_unique hr hr' hw hw']

/-! ### Decoding by that lookup -/

theorem decode_of_findRow_some {w : Word} {r : Row} (h : findRow w = some r) (w2 : Word) :
    decode w w2 = if (r.build w w2).wellFormed then .ok (r.build w w2) else .error (.operandConstraint w) := by
  rw [decode, h]

theorem decode_of_findRow_none {w : Word} (h : findRow w = none) (w2 : Word) : decode w w2 = .error (.noRow w) := by
  rw [decode, h]

/-- Settles O3: the row that matches is the one the lookup finds, because no word matches two. -/
theorem decodeIsRowLookup : Obligations.DecodeIsRowLookup :=
  ⟨opcodeRows_disjoint, fun _ hr _ w2 hw => decode_of_findRow_some (findRow_eq_some_iff.mpr ⟨hr, hw⟩) w2,
    fun _ w2 h => decode_of_findRow_none (findRow_eq_none_iff.mpr h) w2⟩

end Sys2Proof
end

section
/-! PROOFS. The flags of additions and subtractions (R201 and R202 40_arith_logic.md): the formula of each flag is a
carry, a borrow or a signed overflow, and a subtraction is an addition to the complement. -/

namespace Sys2Proof.Machine

open Claim

/-! ### Carries and borrows out of one bit -/

/-- R201's formula for H and C is the carry out of bit `i`. -/
theorem carryFormula_eq {w i : Nat} (hi : i < w) {x y r : BitVec w} {c : Bool}
    (hr : r = x + y + (BitVec.ofBool c).setWidth w) :
    (x.getLsbD i && y.getLsbD i || y.getLsbD i && !r.getLsbD i || !r.getLsbD i && x.getLsbD i) =
      BitVec.carry (i + 1) x y c := by
  rw [BitVec.carry_succ, hr, BitVec.getLsbD_add_add_bool hi]
  generalize x.getLsbD i = xi, y.getLsbD i = yi, BitVec.carry i x y c = ci
  revert xi yi ci
  decide

/-- A subtraction is the complement of an addition to the complement. -/
theorem not_sub_sub {w : Nat} (x y z : BitVec w) : ~~~(x - y - z) = ~~~x + y + z := by
  rw [BitVec.not_sub_eq_not_add, BitVec.not_sub_eq_not_add]

/-- R202's formula for H and C is the carry out of bit `i` of the addition to the complement. -/
theorem borrowFormula_eq {w i : Nat} (hi : i < w) {x y q : BitVec w} {c : Bool}
    (hq : q = x - y - (BitVec.ofBool c).setWidth w) :
    (!x.getLsbD i && y.getLsbD i || y.getLsbD i && q.getLsbD i || q.getLsbD i && !x.getLsbD i) =
      BitVec.carry (i + 1) (~~~x) y c := by
  have hr : ~~~q = ~~~x + y + (BitVec.ofBool c).setWidth w := hq ▸ not_sub_sub ..
  simpa [BitVec.getLsbD_not, hi] using carryFormula_eq hi hr

theorem halfCarry_eq (a b : Byte) (c : Bool) :
    BitVec.carry 4 a b c = decide (15 < a.toNat % 16 + b.toNat % 16 + c.toNat) := rfl

theorem carryOut_eq (a b : Byte) (c : Bool) : BitVec.carry 8 a b c = decide (255 < a.toNat + b.toNat + c.toNat) := by
  simp only [BitVec.carry, decide_eq_decide]
  omega

theorem halfBorrow_eq (a b : Byte) (c : Bool) :
    BitVec.carry 4 (~~~a) b c = decide (a.toNat % 16 < b.toNat % 16 + c.toNat) := by
  simp only [BitVec.carry, BitVec.toNat_not, decide_eq_decide]
  omega

theorem borrowOut_eq (a b : Byte) (c : Bool) :
    BitVec.carry 8 (~~~a) b c = decide (a.toNat < b.toNat + c.toNat) := by
  simp only [BitVec.carry, BitVec.toNat_not, decide_eq_decide]
  omega

/-! ### Sums and differences modulo 256 -/

theorem ofNat_carryIn (c : Bool) : BitVec.ofNat 8 c.toNat = (BitVec.ofBool c).setWidth 8 := by
  cases c <;> rfl

theorem total_eq (a b : Byte) (c : Bool) : total a b c.toNat = a + b + (BitVec.ofBool c).setWidth 8 := by
  simp only [total, BitVec.ofNat_add, BitVec.ofNat_toNat, BitVec.setWidth_eq, ofNat_carryIn]

theorem difference_eq (a b : Byte) (c : Bool) : difference a b c.toNat = a - b - (BitVec.ofBool c).setWidth 8 := by
  simp only [difference, Int.sub_eq_add_neg, BitVec.ofInt_add, BitVec.ofInt_neg, BitVec.ofInt_natCast,
    BitVec.ofNat_toNat, BitVec.setWidth_eq, ofNat_carryIn, BitVec.sub_eq_add_neg]

theorem total_zero (a b : Byte) : total a b 0 = a + b := by
  simpa using total_eq a b false

theorem difference_zero (a b : Byte) : difference a b 0 = a - b := by
  simpa using difference_eq a b false

theorem not_difference (a b : Byte) (c : Bool) : ~~~(difference a b c.toNat) = total (~~~a) b c.toNat := by
  rw [difference_eq, total_eq, not_sub_sub]

/-! ### Signed overflow -/

theorem Byte.bit7_eq (x : Byte) : x.getLsbD 7 = decide (128 ≤ x.toNat) := BitVec.getLsbD_last x

theorem Byte.toInt_not (x : Byte) : (~~~x).toInt = -1 - x.toInt := by
  simp only [BitVec.toInt_eq_toNat_cond, BitVec.toNat_not]
  omega

/-- The operands have one sign and the sum the other exactly when the signed sum is out of range. -/
theorem addOverflow_eq (a b : Byte) (c : Bool) :
    (a.getLsbD 7 && b.getLsbD 7 && !(total a b c.toNat).getLsbD 7 ||
        !a.getLsbD 7 && !b.getLsbD 7 && (total a b c.toNat).getLsbD 7) =
      decide (a.toInt + b.toInt + c.toNat < -128 ∨ 127 < a.toInt + b.toInt + c.toNat) := by
  have hr : (total a b c.toNat).toNat = (a.toNat + b.toNat + c.toNat) % 256 := BitVec.toNat_ofNat ..
  have hc : c.toNat ≤ 1 := Bool.toNat_le c
  rw [Bool.eq_iff_iff]
  simp only [Byte.bit7_eq, hr, BitVec.toInt_eq_toNat_cond, Bool.or_eq_true, Bool.and_eq_true, Bool.not_eq_true',
    decide_eq_true_eq, decide_eq_false_iff_not]
  omega

theorem subOverflow_eq (a b : Byte) (c : Bool) :
    (a.getLsbD 7 && !b.getLsbD 7 && !(difference a b c.toNat).getLsbD 7 ||
        !a.getLsbD 7 && b.getLsbD 7 && (difference a b c.toNat).getLsbD 7) =
      decide (a.toInt - b.toInt - c.toNat < -128 ∨ 127 < a.toInt - b.toInt - c.toNat) := by
  have h := addOverflow_eq (~~~a) b c
  simp only [← not_difference, Byte.toInt_not, BitVec.getLsbD_not, Nat.reduceLT, decide_true, Bool.true_and,
    Bool.not_not] at h
  rw [Bool.or_comm, h, decide_eq_decide]
  omega

/-! ### The flag helpers -/

theorem addFlags_halfCarry (a b sr : Byte) (c : Bool) :
    (addFlags a b (total a b c.toNat) sr).getLsbD bitH = decide (15 < a.toNat % 16 + b.toNat % 16 + c.toNat) := by
  rw [← halfCarry_eq, ← carryFormula_eq (by decide) (total_eq a b c)]
  exact arithSreg_bit ..

theorem addFlags_overflow (a b sr : Byte) (c : Bool) :
    (addFlags a b (total a b c.toNat) sr).getLsbD bitV =
      decide (a.toInt + b.toInt + c.toNat < -128 ∨ 127 < a.toInt + b.toInt + c.toNat) := by
  rw [← addOverflow_eq]
  exact arithSreg_bit ..

theorem addFlags_carry (a b sr : Byte) (c : Bool) :
    (addFlags a b (total a b c.toNat) sr).getLsbD bitC = decide (255 < a.toNat + b.toNat + c.toNat) := by
  rw [← carryOut_eq, ← carryFormula_eq (by decide) (total_eq a b c)]
  exact arithSreg_bit ..

theorem subFlags_halfCarry (a b sr : Byte) (c keepZ : Bool) :
    (subFlags a b (difference a b c.toNat) keepZ sr).getLsbD bitH = decide (a.toNat % 16 < b.toNat % 16 + c.toNat) := by
  rw [← halfBorrow_eq, ← borrowFormula_eq (by decide) (difference_eq a b c)]
  exact arithSreg_bit ..

theorem subFlags_overflow (a b sr : Byte) (c keepZ : Bool) :
    (subFlags a b (difference a b c.toNat) keepZ sr).getLsbD bitV =
      decide (a.toInt - b.toInt - c.toNat < -128 ∨ 127 < a.toInt - b.toInt - c.toNat) := by
  rw [← subOverflow_eq]
  exact arithSreg_bit ..

theorem subFlags_carry (a b sr : Byte) (c keepZ : Bool) :
    (subFlags a b (difference a b c.toNat) keepZ sr).getLsbD bitC = decide (a.toNat < b.toNat + c.toNat) := by
  rw [← borrowOut_eq, ← borrowFormula_eq (by decide) (difference_eq a b c)]
  exact arithSreg_bit ..

/-- S is N xor V after an addition or a subtraction. -/
theorem arithSreg_sign (sr : Byte) (h v n z c : Bool) :
    (arithSreg sr h v n z c).getLsbD bitS =
      ((arithSreg sr h v n z c).getLsbD bitN ^^ (arithSreg sr h v n z c).getLsbD bitV) := by
  simp only [arithSreg_bit]
  rfl

/-- S is N xor V after ADIW, SBIW, the logic instructions, COM, INC, DEC and the shifts. -/
theorem wordSreg_sign (sr : Byte) (v n z c : Bool) :
    (wordSreg sr v n z c).getLsbD bitS =
      ((wordSreg sr v n z c).getLsbD bitN ^^ (wordSreg sr v n z c).getLsbD bitV) := by
  simp only [wordSreg_bit]
  rfl

/-- Settles O22: the bit formulas are what the helpers write, and each arithmetic condition is the carry, borrow or
overflow that its formula computes. -/
theorem flagFormulasAreArithmetic : Obligations.FlagFormulasAreArithmetic := by
  intro a b sr cin keepZ
  exact ⟨arithSreg_bit .., addFlags_halfCarry a b sr cin, arithSreg_bit .., addFlags_overflow a b sr cin,
    arithSreg_bit .., arithSreg_sign .., arithSreg_bit .., arithSreg_bit .., addFlags_carry a b sr cin,
    arithSreg_bit .., arithSreg_bit .., arithSreg_bit .., subFlags_halfCarry a b sr cin keepZ, arithSreg_bit ..,
    subFlags_overflow a b sr cin keepZ, arithSreg_bit .., arithSreg_sign .., arithSreg_bit .., arithSreg_bit ..,
    subFlags_carry a b sr cin keepZ, arithSreg_bit .., arithSreg_bit ..⟩

end Sys2Proof.Machine
end

section
/-! PROOFS. The instructions of 40_arith_logic.md: what the end of an ALU, a word and a multiply instruction writes and
leaves (R30, R40), and each instruction as one such end. -/

namespace Sys2Proof.Machine

open Claim

/-! ### Ends and frames of the ALU instructions -/

theorem arithSreg_kept {sr : Byte} {h v n z c : Bool} :
    ∀ i, i < 8 → i ∉ [bitH, bitS, bitV, bitN, bitZ, bitC] → (arithSreg sr h v n z c).getLsbD i = sr.getLsbD i := by
  have others : ∀ i < 8, i ∉ [bitH, bitS, bitV, bitN, bitZ, bitC] → i = bitT ∨ i = bitI := by decide
  intro i hi hkept
  obtain rfl | rfl := others i hi hkept
  · exact arithSreg_bit ..
  · exact arithSreg_bit ..

theorem wordSreg_kept {sr : Byte} {v n z c : Bool} :
    ∀ i, i < 8 → i ∉ [bitS, bitV, bitN, bitZ, bitC] → (wordSreg sr v n z c).getLsbD i = sr.getLsbD i := by
  have others : ∀ i < 8, i ∉ [bitS, bitV, bitN, bitZ, bitC] → i = bitH ∨ i = bitT ∨ i = bitI := by decide
  intro i hi hkept
  obtain rfl | rfl | rfl := others i hi hkept
  · exact wordSreg_bit ..
  · exact wordSreg_bit ..
  · exact wordSreg_bit ..

theorem logicSreg_kept {sr : Byte} {v n z : Bool} :
    ∀ i, i < 8 → i ∉ [bitS, bitV, bitN, bitZ] → (logicSreg sr v n z).getLsbD i = sr.getLsbD i := by
  intro i hi hkept
  by_cases hC : i = bitC
  · exact hC ▸ logicSreg_bit ..
  · exact wordSreg_kept i hi (by simp_all)

theorem mulSreg_kept {sr : Byte} {z c : Bool} :
    ∀ i, i < 8 → i ∉ [bitC, bitZ] → (mulSreg sr z c).getLsbD i = sr.getLsbD i := by
  intro i _ hkept
  obtain ⟨hC, hZ⟩ : i ≠ 0 ∧ i ≠ 1 := by simpa using hkept
  rw [mulSreg_bit, if_neg hC, if_neg hZ]

theorem State.aluResult_reg (s : State) (d : BitVec 5) (r sr : Byte) (q : BitVec 5) :
    (s.aluResult d r sr).reg q = if q = d then r else s.reg q := by
  simp [State.aluResult]

theorem State.aluResult_reg_same (s : State) (d : BitVec 5) (r sr : Byte) : (s.aluResult d r sr).reg d = r := by
  rw [State.aluResult_reg, if_pos rfl]

/-- Writing Rd and SREG keeps everything but Rd and the flags in which the new SREG differs. -/
theorem aluFrame_aluResult (s : State) (d : BitVec 5) (r : Byte) {sr : Byte} {flags : List Nat}
    (h : ∀ i, i < 8 → i ∉ flags → sr.getLsbD i = s.sreg.getLsbD i) : aluFrame d flags s (s.aluResult d r sr) := by
  refine ⟨fun q hq => ?_, h, fun _ => rfl, restKept_fall ((s.setReg d r).setSreg sr) 1 1, rfl, rfl⟩
  rw [State.aluResult_reg, if_neg (by simpa using hq)]

/-- Every state whose SREG is `addFlags` of the sum has the flags of the addition. -/
theorem addFlagsOf_of_sreg {t : State} {a b sr : Byte} {c : Bool} (h : t.sreg = addFlags a b (total a b c.toNat) sr) :
    addFlagsOf a b c.toNat t := by
  unfold addFlagsOf State.flag
  rw [h]
  exact ⟨addFlags_halfCarry a b sr c, addFlags_overflow a b sr c, (arithSreg_bit ..).trans (Byte.bit7_eq _),
    arithSreg_sign .., arithSreg_bit .., addFlags_carry a b sr c⟩

/-- Every state whose SREG is `subFlags` of the difference has the flags of the subtraction. -/
theorem subFlagsOf_of_sreg {t : State} {a b sr : Byte} {c keepZ : Bool}
    (h : t.sreg = subFlags a b (difference a b c.toNat) keepZ sr) :
    subFlagsOf a b c.toNat
      (if keepZ then difference a b c.toNat == 0 && sr.getLsbD bitZ else difference a b c.toNat == 0) t := by
  unfold subFlagsOf State.flag
  rw [h]
  exact ⟨subFlags_halfCarry a b sr c keepZ, subFlags_overflow a b sr c keepZ, (arithSreg_bit ..).trans (Byte.bit7_eq _),
    arithSreg_sign .., arithSreg_bit .., subFlags_carry a b sr c keepZ⟩

theorem adds_aluResult (s : State) (d : BitVec 5) {a b r : Byte} {c : Bool} (hr : r = total a b c.toNat) :
    adds d a b c.toNat s (s.aluResult d r (addFlags a b r s.sreg)) := by
  subst hr
  exact ⟨State.aluResult_reg_same .., addFlagsOf_of_sreg rfl, aluFrame_aluResult _ _ _ arithSreg_kept⟩

theorem subtracts_aluResult (s : State) (d : BitVec 5) {a b r : Byte} {c : Bool} (keepZ : Bool)
    (hr : r = difference a b c.toNat) :
    subtracts d a b c.toNat
      (if keepZ then difference a b c.toNat == 0 && s.flag bitZ else difference a b c.toNat == 0) s
      (s.aluResult d r (subFlags a b r keepZ s.sreg)) := by
  subst hr
  exact ⟨State.aluResult_reg_same .., subFlagsOf_of_sreg rfl, aluFrame_aluResult _ _ _ arithSreg_kept⟩

/-! ### Additions and subtractions -/

/-- Settles O23: each is its sum or difference of Rd, the other operand and the carry in. -/
theorem additionsAndSubtractions : Obligations.AdditionsAndSubtractions := by
  intro s d r k
  have hsub (b : Byte) := subtracts_aluResult s d (c := false) false (difference_zero (s.reg d) b).symm
  have hsbc (b : Byte) := subtracts_aluResult s d true (difference_eq (s.reg d) b (s.flag bitC)).symm
  exact ⟨⟨rfl, _, rfl, adds_aluResult s d (c := false) (total_zero ..).symm⟩,
    ⟨rfl, _, rfl, adds_aluResult s d (total_eq ..).symm⟩,
    ⟨rfl, _, rfl, hsub (s.reg r)⟩, ⟨rfl, _, rfl, hsbc (s.reg r)⟩,
    fun _ => ⟨⟨rfl, _, rfl, hsub k⟩, ⟨rfl, _, rfl, hsbc k⟩⟩⟩

/-! ### Logic instructions -/

theorem logics_aluResult (s : State) (d : BitVec 5) (r : Byte) :
    logics d r s (s.aluResult d r (logicFlags r s.sreg)) :=
  ⟨State.aluResult_reg_same .., ⟨logicSreg_bit .., logicSreg_bit .., (logicSreg_bit ..).trans (Bool.xor_false _),
    logicSreg_bit ..⟩, aluFrame_aluResult _ _ _ logicSreg_kept⟩

/-- Settles O26: each writes its bitwise result with `LogicFlags`. -/
theorem logicInstructions : Obligations.LogicInstructions := by
  intro s d r k
  exact ⟨⟨rfl, _, rfl, logics_aluResult ..⟩, ⟨rfl, _, rfl, logics_aluResult ..⟩, ⟨rfl, _, rfl, logics_aluResult ..⟩,
    fun _ => ⟨⟨rfl, _, rfl, logics_aluResult ..⟩, ⟨rfl, _, rfl, logics_aluResult ..⟩⟩⟩

/-! ### COM, NEG, INC and DEC -/

theorem beq_eq_decide_toNat {w : Nat} (x y : BitVec w) : (x == y) = decide (x.toNat = y.toNat) := by
  rw [Bool.eq_iff_iff, beq_iff_eq, decide_eq_true_eq, BitVec.toNat_inj]

/-- R218's flags are `SubFlags(0, a, R, false)`: a zero borrows unless the result is 0, and overflows only at 0x80. -/
theorem negFlags_eq_subFlags (a sr : Byte) : negFlags a (0 - a) sr = subFlags 0 a (0 - a) false sr := by
  have hr : (0 - a).toNat = (256 - a.toNat) % 256 := by simp
  have hV : (0 - a == 0x80) = (a.getLsbD 7 && (0 - a).getLsbD 7) := by
    rw [Bool.eq_iff_iff]
    simp only [Byte.bit7_eq, hr, beq_eq_decide_toNat, Bool.and_eq_true, decide_eq_true_eq, BitVec.reduceToNat]
    omega
  have hC : (0 - a != 0) = (a.getLsbD 7 || (0 - a).getLsbD 7) := by
    rw [Bool.eq_iff_iff]
    simp only [Byte.bit7_eq, hr, bne, beq_eq_decide_toNat, Bool.not_eq_true', decide_eq_false_iff_not, Bool.or_eq_true,
      decide_eq_true_eq, BitVec.reduceToNat]
    omega
  have absorb : ∀ x y : Bool, (y || y && x || x) = (x || y) := by decide
  rw [negFlags, subFlags, hV, hC]
  simp [absorb, Bool.or_comm]

theorem subtracts_neg (s : State) (d : BitVec 5) :
    subtracts d 0 (s.reg d) 0 (difference 0 (s.reg d) 0 == 0) s
      (s.aluResult d (0 - s.reg d) (negFlags (s.reg d) (0 - s.reg d) s.sreg)) := by
  rw [negFlags_eq_subFlags]
  exact subtracts_aluResult s d (c := false) false (difference_zero 0 (s.reg d)).symm

theorem logicFlagsOf_com (s : State) (d : BitVec 5) (r : Byte) :
    logicFlagsOf r (s.aluResult d r (comFlags r s.sreg)) :=
  ⟨wordSreg_bit .., wordSreg_bit .., (wordSreg_bit ..).trans (Bool.xor_false _), wordSreg_bit ..⟩

/-- What INC and DEC leave: V as given, N, S and Z by the result, C and H kept. -/
theorem counted_aluResult (s : State) (d : BitVec 5) (r : Byte) (v : Bool) :
    let t := s.aluResult d r (logicSreg s.sreg v (r.getLsbD 7) (r == 0))
    t.flag bitV = v ∧ t.flag bitN = decide (128 ≤ (t.reg d).toNat) ∧ t.flag bitS = (t.flag bitN ^^ t.flag bitV) ∧
      t.flag bitZ = decide ((t.reg d).toNat = 0) ∧ aluFrame d [bitS, bitV, bitN, bitZ] s t := by
  intro t
  have hreg : t.reg d = r := State.aluResult_reg_same ..
  rw [hreg, ← Byte.bit7_eq]
  exact ⟨logicSreg_bit .., logicSreg_bit .., wordSreg_sign .., (logicSreg_bit ..).trans (beq_eq_decide_toNat r 0),
    aluFrame_aluResult _ _ _ logicSreg_kept⟩

/-- Settles O27: NEG is the subtraction from 0, and INC and DEC overflow at one operand each. -/
theorem oneOperandArithmetic : Obligations.OneOperandArithmetic := by
  intro s d
  refine ⟨⟨rfl, _, rfl, ?com, ?comFlags, wordSreg_bit .., aluFrame_aluResult _ _ _ wordSreg_kept⟩,
    ⟨rfl, _, rfl, subtracts_neg s d, ?negV, ?negC, ?negH⟩, ⟨rfl, _, rfl, ?inc, ?incFlags⟩, ⟨rfl, _, rfl, ?dec, ?decFlags⟩⟩
  case com =>
    rw [State.aluResult_reg_same]
    bv_omega
  case comFlags =>
    rw [State.aluResult_reg_same]
    exact logicFlagsOf_com ..
  case negV | negC | negH =>
    rw [State.aluResult_reg_same]
    exact arithSreg_bit ..
  case inc =>
    rw [State.aluResult_reg_same]
    exact BitVec.toNat_add ..
  case dec =>
    rw [State.aluResult_reg_same, BitVec.toNat_sub, Nat.add_comm]
    rfl
  case incFlags =>
    rw [← show (s.reg d == 0x7F) = decide ((s.reg d).toNat = 127) from beq_eq_decide_toNat ..]
    exact counted_aluResult ..
  case decFlags =>
    rw [← show (s.reg d == 0x80) = decide ((s.reg d).toNat = 128) from beq_eq_decide_toNat ..]
    exact counted_aluResult ..

/-! ### Word instructions -/

theorem pairOf_eq (s : State) (d : BitVec 5) : pairOf s d = (s.pair d).toNat := by
  rw [State.pair, BitVec.toNat_append, ← Nat.shiftLeft_add_eq_or_of_lt (s.reg d).isLt, Nat.shiftLeft_eq, pairOf]
  omega

theorem Word.bit15_eq (x : Word) : x.getLsbD 15 = decide (32768 ≤ x.toNat) := BitVec.getLsbD_last x

theorem State.pairResult_pairOf (s : State) (d : BitVec 5) (r : Word) (sr : Byte) :
    pairOf (s.pairResult d r sr) d = r.toNat :=
  (pairOf_eq ..).trans (congrArg BitVec.toNat (s.setPair_pair d r))

theorem State.setPair_regsKept (s : State) (d : BitVec 5) (v : Word) : regsKept [d, d + 1] s (s.setPair d v) := by
  intro q hq
  obtain ⟨hlow, hhigh⟩ : q ≠ d ∧ q ≠ d + 1 := by simpa using hq
  rw [State.setPair_reg, if_neg hhigh, if_neg hlow]

theorem pairFrame_pairResult (s : State) (d : BitVec 5) (r : Word) {v n z c : Bool} :
    pairFrame d s (s.pairResult d r (wordSreg s.sreg v n z c)) :=
  ⟨s.setPair_regsKept d r, wordSreg_kept, fun _ => rfl, restKept_fall ((s.setPair d r).setSreg _) 1 2, rfl, rfl⟩

/-- Bit 15 clear in `x` and set in `y`: V of R206, and C of R206 with the words the other way round. -/
theorem Word.bit15_rises (x y : Word) :
    (!x.getLsbD 15 && y.getLsbD 15) = decide (x.toNat < 32768 ∧ 32768 ≤ y.toNat) := by
  rw [Word.bit15_eq, Word.bit15_eq, Bool.decide_and, ← decide_not, decide_eq_decide.mpr Nat.not_le]

/-- Bit 15 set in `x` and clear in `y`: V of R211, and C of R211 with the words the other way round. -/
theorem Word.bit15_falls (x y : Word) :
    (x.getLsbD 15 && !y.getLsbD 15) = decide (32768 ≤ x.toNat ∧ y.toNat < 32768) := by
  rw [Bool.and_comm, Word.bit15_rises, decide_eq_decide.mpr And.comm]

theorem Word.toNat_add_setWidth (x : Word) (k : BitVec 6) :
    (x + k.setWidth 16).toNat = (x.toNat + k.toNat) % 65536 := by
  rw [BitVec.toNat_add, BitVec.toNat_setWidth_of_le (by decide)]

theorem Word.toNat_sub_setWidth (x : Word) (k : BitVec 6) :
    (x - k.setWidth 16).toNat = (x.toNat + 65536 - k.toNat) % 65536 := by
  rw [BitVec.toNat_sub, BitVec.toNat_setWidth_of_le (by decide)]
  omega

/-- Bit 15 falls in an addition of less than 2^15 exactly when there is a carry. -/
theorem Word.add_carry (x : Word) (k : BitVec 6) :
    (!(x + k.setWidth 16).getLsbD 15 && x.getLsbD 15) = decide (65535 < x.toNat + k.toNat) := by
  rw [Word.bit15_rises, Word.toNat_add_setWidth, decide_eq_decide]
  omega

/-- Bit 15 rises in a subtraction of less than 2^15 exactly when there is a borrow. -/
theorem Word.sub_borrow (x : Word) (k : BitVec 6) :
    ((x - k.setWidth 16).getLsbD 15 && !x.getLsbD 15) = decide (x.toNat < k.toNat) := by
  rw [Word.bit15_falls, Word.toNat_sub_setWidth, decide_eq_decide]
  omega

/-- Settles O25: V and C are the two ways bit 15 can change, and the change against the addition or the subtraction is
its carry or borrow. -/
theorem wordImmediates : Obligations.WordImmediates := by
  intro s d k _
  refine ⟨⟨rfl, _, rfl, ?add⟩, ⟨rfl, _, rfl, ?sub⟩⟩
  case add =>
    rw [pairOf_eq s, State.pairResult_pairOf]
    exact ⟨Word.toNat_add_setWidth .., (wordSreg_bit ..).trans (Word.bit15_rises ..),
      (wordSreg_bit ..).trans (Word.bit15_eq _), wordSreg_sign .., (wordSreg_bit ..).trans (beq_eq_decide_toNat _ 0),
      (wordSreg_bit ..).trans (Word.bit15_rises ..), (wordSreg_bit ..).trans (Word.add_carry ..),
      pairFrame_pairResult ..⟩
  case sub =>
    rw [pairOf_eq s, State.pairResult_pairOf]
    exact ⟨Word.toNat_sub_setWidth .., (wordSreg_bit ..).trans (Word.bit15_falls ..),
      (wordSreg_bit ..).trans (Word.bit15_eq _), wordSreg_sign .., (wordSreg_bit ..).trans (beq_eq_decide_toNat _ 0),
      (wordSreg_bit ..).trans (Word.bit15_falls ..), (wordSreg_bit ..).trans (Word.sub_borrow ..),
      pairFrame_pairResult ..⟩

/-! ### Multiplications -/

theorem mulUU_eq (a b : Byte) : mulUU a b = BitVec.ofNat 16 (a.toNat * b.toNat) := by
  rw [BitVec.ofNat_mul, BitVec.ofNat_toNat, BitVec.ofNat_toNat, mulUU]

theorem mulSS_eq (a b : Byte) : mulSS a b = BitVec.ofInt 16 (a.toInt * b.toInt) := by
  rw [BitVec.ofInt_mul, mulSS, BitVec.signExtend, BitVec.signExtend]

theorem mulSU_eq (a b : Byte) : mulSU a b = BitVec.ofInt 16 (a.toInt * (b.toNat : Int)) := by
  rw [BitVec.ofInt_mul, BitVec.ofInt_natCast, BitVec.ofNat_toNat, mulSU, BitVec.signExtend]

theorem multiplies_mulResult (s : State) (p q : Word) : multiplies p q s (s.mulResult p q) :=
  ⟨s.setPair_pair 0 q, mulSreg_bit .., mulSreg_bit .., s.setPair_regsKept 0 q, mulSreg_kept, fun _ => rfl,
    restKept_fall ((s.setPair 0 q).setSreg _) 1 2, rfl, rfl⟩

/-- Settles O28: the exact product of the operands as read, in R1:R0 after the shift of a fractional form. -/
theorem multiplications : Obligations.Multiplications := by
  intro s d r
  simp only [← mulUU_eq, ← mulSS_eq, ← mulSU_eq]
  exact ⟨⟨rfl, _, rfl, multiplies_mulResult ..⟩, fun _ _ => ⟨rfl, _, rfl, multiplies_mulResult ..⟩,
    fun _ _ _ _ => ⟨⟨rfl, _, rfl, multiplies_mulResult ..⟩, ⟨rfl, _, rfl, multiplies_mulResult ..⟩,
      ⟨rfl, _, rfl, multiplies_mulResult ..⟩, ⟨rfl, _, rfl, multiplies_mulResult ..⟩⟩⟩

end Sys2Proof.Machine
end

section
/-! PROOFS. The compares, jumps and conditional branches of 41_branch.md (R261, R263 to R265, R273 to R275, R280, R281):
what the end of a compare and the end of a jump write and leave, and each instruction as one such end. -/

namespace Sys2Proof.Machine

open Claim

/-! ### Compares -/

/-- Writing SREG by an arithmetic flag helper and falling through keeps everything but those flags. -/
theorem compareFrame_compareResult (s : State) {h v n z c : Bool} :
    compareFrame s (s.compareResult (arithSreg s.sreg h v n z c)) :=
  ⟨fun _ _ => rfl, arithSreg_kept, fun _ => rfl, restKept_fall (s.setSreg _) 1 1, rfl, rfl⟩

/-- The end of a compare of `a` with `b` and a borrow in `c`: the difference only sets the flags. -/
theorem compares_compareResult (s : State) {a b r : Byte} {c : Bool} (keepZ : Bool) (hr : r = difference a b c.toNat) :
    let t := s.compareResult (subFlags a b r keepZ s.sreg)
    subFlagsOf a b c.toNat
        (if keepZ then difference a b c.toNat == 0 && s.flag bitZ else difference a b c.toNat == 0) t ∧
      compareFrame s t := by
  subst hr
  exact ⟨subFlagsOf_of_sreg rfl, compareFrame_compareResult s⟩

/-- Settles O24: each has the end of a compare, CPC with the carry in and Z kept. -/
theorem compares : Obligations.Compares := by
  intro s d r k
  have hcp (b : Byte) := compares_compareResult s (c := false) false (difference_zero (s.reg d) b).symm
  have hcpc := compares_compareResult s true (difference_eq (s.reg d) (s.reg r) (s.flag bitC)).symm
  exact ⟨⟨rfl, _, rfl, hcp (s.reg r)⟩, ⟨rfl, _, rfl, hcpc⟩, fun _ => ⟨rfl, _, rfl, hcp k⟩⟩

/-! ### Jumps and conditional branches -/

/-- R261: the displacement added to pc + 1 as a word is its signed value added modulo 2^16. -/
theorem State.relTarget_signExtend (s : State) {n : Nat} (k : BitVec n) :
    s.relTarget (k.signExtend 16) = relTargetOf s k.toInt := by
  rw [State.relTarget, relTargetOf, BitVec.ofInt_add, BitVec.ofInt_add, BitVec.ofInt_natCast, BitVec.ofNat_toNat,
    BitVec.setWidth_eq, BitVec.signExtend]
  rfl

/-- R265's `k[15:0]` is the address modulo 2^16. -/
theorem longTarget_eq_ofNat (k : BitVec 22) : longTarget k = BitVec.ofNat 16 k.toNat := by
  apply BitVec.eq_of_toNat_eq
  simp [longTarget]

theorem allKept_goto (s : State) (target : Word) (cost : Nat) : allKept s (s.goto target cost) := by
  simp [allKept, regsKept, ramKept, restKept]

theorem jumps_goto (s : State) (target : Word) (cost : Nat) : jumps target cost s (s.goto target cost) :=
  ⟨rfl, rfl, allKept_goto s target cost⟩

/-- R280 and R281 share one end: the relative target if the condition holds, the next word if not. -/
theorem branches_branchIf (s : State) (c : Bool) (k : BitVec 7) : branches c k s (s.branchIf c k) := by
  cases c with
  | true =>
    have htarget : s.relTarget (disp7 k) = relTargetOf s k.toInt := s.relTarget_signExtend k
    rw [branches, if_pos rfl, ← htarget]
    exact jumps_goto ..
  | false => exact jumps_goto ..

/-- Settles O32: the jumps go to their target, and both branches are `State.branchIf` of the flag or its complement. -/
theorem jumpsAndBranches : Obligations.JumpsAndBranches := by
  intro s k l b m
  rw [← s.relTarget_signExtend k, ← longTarget_eq_ofNat]
  exact ⟨⟨rfl, _, rfl, jumps_goto ..⟩, ⟨rfl, _, rfl, jumps_goto ..⟩, fun _ => ⟨rfl, _, rfl, jumps_goto ..⟩,
    ⟨rfl, _, rfl, branches_branchIf ..⟩, ⟨rfl, _, rfl, branches_branchIf ..⟩⟩

end Sys2Proof.Machine
end

section
/-! PROOFS. The register moves, IN and OUT, and LPM of 42_data_transfer.md (R301 to R303, R324 to R328): the end of a
register write, a load and a store at a data address that exists, and the byte of program memory LPM reads (R104
20_memory.md). -/

namespace Sys2Proof.Machine

open Claim

/-! ### Register writes and falling through -/

theorem State.setReg_reg_same (s : State) (d : BitVec 5) (v : Byte) : (s.setReg d v).reg d = v := by
  rw [State.setReg_reg, if_pos rfl]

theorem State.setReg_regsKept (s : State) (d : BitVec 5) (v : Byte) : regsKept [d] s (s.setReg d v) := by
  intro q hq
  rw [State.setReg_reg, if_neg (by simpa using hq)]

/-- A register outside a pointer keeps its value when the pointer is written. -/
theorem State.setPtr_reg_of_notMem (s : State) (p : Ptr) (v : Word) {q : BitVec 5} (h : q ∉ [p.low, p.low + 1]) :
    (s.setPtr p v).reg q = s.reg q :=
  s.setPair_regsKept p.low v q h

/-- The end of an instruction that writes Rd and nothing else. -/
theorem frame_setReg_fall (s : State) (d : BitVec 5) (v : Byte) (words : Word) (cost : Nat) :
    let t := (s.setReg d v).fall words cost
    regsKept [d] s t ∧ t.sreg = s.sreg ∧ ramKept s t ∧ restKept s t ∧ ends words cost s t :=
  ⟨s.setReg_regsKept d v, rfl, fun _ => rfl, restKept_fall (s.setReg d v) words cost, rfl, rfl⟩

/-- The same in one word and one cycle, as the frame of an instruction that writes no flag. -/
theorem aluFrame_setReg (s : State) (d : BitVec 5) (v : Byte) : aluFrame d [] s ((s.setReg d v).fall 1 1) := by
  obtain ⟨hregs, _, hram, hrest, hends⟩ := frame_setReg_fall s d v 1 1
  exact ⟨hregs, fun _ _ _ => rfl, hram, hrest, hends⟩

/-- The end of an instruction that writes Rd and then a pointer. -/
theorem frame_setReg_setPtr_fall (s : State) (d : BitVec 5) (v : Byte) (p : Ptr) (p' words : Word) (cost : Nat) :
    let t := ((s.setReg d v).setPtr p p').fall words cost
    regsKept [d, p.low, p.low + 1] s t ∧ t.sreg = s.sreg ∧ ramKept s t ∧ restKept s t ∧ ends words cost s t := by
  refine ⟨fun q hq => ?_, rfl, fun _ => rfl, restKept_fall ((s.setReg d v).setPtr p p') words cost, rfl, rfl⟩
  have hd : q ∉ [d] := fun h => hq (List.mem_append_left [p.low, p.low + 1] h)
  have hp : q ∉ [p.low, p.low + 1] := fun h => hq (List.mem_cons_of_mem d h)
  exact (State.setPtr_reg_of_notMem _ p p' hp).trans (s.setReg_regsKept d v q hd)

/-- A pair written with the value of a pair holds its two bytes, also where the pairs overlap. -/
theorem State.setPair_pair_reg (s : State) (d r : BitVec 5) :
    (s.setPair d (s.pair r)).reg d = s.reg r ∧ (s.setPair d (s.pair r)).reg (d + 1) = s.reg (r + 1) := by
  have hd : d ≠ d + 1 := by bv_omega
  constructor
  · rw [State.setPair_reg, if_neg hd, if_pos rfl]
    exact lowByte_append ..
  · rw [State.setPair_reg, if_pos rfl]
    exact highByte_append ..

/-- Settles O37: MOV and LDI write one register, MOVW the pair with the two bytes as read. -/
theorem registerMoves : Obligations.RegisterMoves := by
  intro s d r k
  obtain ⟨hlow, hhigh⟩ := s.setPair_pair_reg d r
  exact ⟨⟨rfl, _, rfl, s.setReg_reg_same d (s.reg r), aluFrame_setReg ..⟩,
    fun _ _ => ⟨rfl, _, rfl, hlow, hhigh, s.setPair_regsKept d (s.pair r), rfl, fun _ => rfl,
      restKept_fall (s.setPair d (s.pair r)) 1 1, rfl, rfl⟩,
    fun _ => ⟨rfl, _, rfl, s.setReg_reg_same d k, aluFrame_setReg ..⟩⟩

/-! ### A load and a store at a data address that exists -/

theorem State.readAt_reg (s : State) (a : Word) (q : BitVec 5) : (s.readAt a).2.reg q = s.reg q := by
  rw [State.reg, State.readAt_regs, State.reg]

theorem State.readAt_ram (s : State) (a b : Word) : (s.readAt a).2.ram b = s.ram b := by
  rw [State.ram, State.readAt_mem, State.ram]

theorem State.writeIo_reg (s : State) (r : IoReg) (v : Byte) (q : BitVec 5) : (s.writeIo r v).reg q = s.reg q := by
  rw [State.reg, State.writeIo_regs, State.reg]

theorem State.writeIo_ram (s : State) (r : IoReg) (v : Byte) (b : Word) : (s.writeIo r v).ram b = s.ram b := by
  rw [State.ram, State.writeIo_mem, State.ram]

/-- A load without pointer update, of any length and cost. -/
theorem loads_loadByte (s : State) (d : BitVec 5) {a : Word} (h : dataValid a = true) (words : Word) (cost : Nat) :
    loads d a words cost s (s.loadByte d a words cost) := by
  rw [State.loadByte_valid s d h]
  obtain ⟨hregs, hsreg, hram, hrest, hpc, hcycles⟩ :=
    frame_setReg_fall (s.readAt a).2 d (s.readAt a).1 words cost
  exact ⟨State.setReg_reg_same .., fun q hq => (hregs q hq).trans (s.readAt_reg a q), hsreg.trans (s.readAt_sreg a),
    fun b => (hram b).trans (s.readAt_ram a b), hrest, s.readAt_pc a ▸ hpc, s.readAt_cycles a ▸ hcycles⟩

/-- A store without pointer update, of any length and cost, by what stands at the address. -/
theorem stores_storeByte (s : State) {a : Word} (h : storable s a) (v : Byte) (words : Word) (cost : Nat) :
    stores a v [] words cost s (s.storeByte a v words cost) := by
  obtain ⟨hvalid, hmem⟩ := h
  rw [State.storeByte_valid s hvalid]
  refine ⟨fun b hb => s.writeAt_ram_ne hb v, by simp [ends], ?_⟩
  cases hroute : route a with
  | cell =>
    rw [State.writeAt_cell s hroute]
    exact ⟨s.setRam_ram_same hmem a v, fun _ _ => rfl, rfl, restKept_fall (s.setRam a v) words cost⟩
  | register d =>
    rw [State.writeAt_register s hroute]
    exact ⟨fun _ => s.setReg_reg_same d v, s.setReg_regsKept d v, fun _ => rfl, rfl,
      restKept_fall (s.setReg d v) words cost⟩
  | io r =>
    rw [State.writeAt_io s hroute]
    exact ⟨fun q _ => s.writeIo_reg r v q, s.writeIo_ram r v, rfl, restKept_fall (s.writeIo r v) words cost⟩

/-! ### IN and OUT -/

theorem ioAddr_eq_ofNat (a : BitVec 6) : ioAddr a = BitVec.ofNat 16 (a.toNat + 0x20) := by
  apply BitVec.eq_of_toNat_eq
  simp [ioAddr]

/-- A + 0x20 is at most 0x5F. -/
theorem dataValid_ioAddr (a : BitVec 6) : dataValid (ioAddr a) = true := by
  have haddr : (ioAddr a).toNat ≤ 0x5F := by
    rw [ioAddr_eq_ofNat, BitVec.toNat_ofNat]
    omega
  exact decide_eq_true (haddr.trans (by decide))

/-- Settles O43: a load and a store at A + 0x20, which always exists. -/
theorem inAndOut : Obligations.InAndOut := by
  intro s d r a
  rw [← ioAddr_eq_ofNat]
  have hvalid := dataValid_ioAddr a
  exact ⟨⟨rfl, _, rfl, loads_loadByte s d hvalid 1 1⟩,
    fun hmem => ⟨rfl, _, rfl, stores_storeByte s ⟨hvalid, hmem⟩ (s.reg r) 1 1⟩⟩

/-! ### LPM -/

/-- R104: the byte at byte address `z` is the half of program word `z >> 1` that bit 0 of `z` chooses. -/
theorem State.flash_eq_half_of_progWord (s : State) {z : Word} (h : z.toNat < Config.pmBytes) :
    ∃ w, s.progWord (z >>> 1) = some w ∧
      s.flash z.toNat = if z.getLsbD 0 then w.extractLsb' 8 8 else w.extractLsb' 0 8 := by
  have hhalf : (z >>> 1).toNat = z.toNat / 2 := by
    rw [BitVec.toNat_ushiftRight, Nat.shiftRight_eq_div_pow, Nat.pow_one]
  have hword : (z >>> 1).toNat < Config.pmWords := by
    rw [hhalf]
    exact Nat.div_lt_of_lt_mul h
  have hbit : z.getLsbD 0 = decide (z.toNat % 2 = 1) := by
    rw [BitVec.getLsbD, Nat.testBit_zero]
  refine ⟨_, if_pos hword, ?_⟩
  rw [hbit, hhalf]
  by_cases hodd : z.toNat % 2 = 1
  · have hz : 2 * (z.toNat / 2) + 1 = z.toNat := by omega
    rw [decide_eq_true hodd, if_pos rfl, hz]
    exact (highByte_append ..).symm
  · have hz : 2 * (z.toNat / 2) = z.toNat := by omega
    rw [decide_eq_false hodd, if_neg Bool.false_ne_true, hz]
    exact (lowByte_append ..).symm

theorem State.next_progByte_valid (s : State) {b : Word} (h : b.toNat < Config.pmBytes) (k : Byte → State → State) :
    (.next (s.progByte b k) : Out State) = .next (k (s.flash b.toNat) s) := by
  rw [State.progByte_valid s h]

theorem State.next_progByte_invalid (s : State) {b : Word} (h : ¬ b.toNat < Config.pmBytes)
    (k : Byte → State → State) : (.next (s.progByte b k) : Out State) = .next (s.raise (.programReadOutOfRange b)) := by
  rw [State.progByte_invalid s h]

/-- The first form of LPM is the second one with R0 (R324, R325). -/
theorem exec_lpmR0 (s : State) : exec .lpmR0 s = exec (.lpmZ 0) s := rfl

theorem exec_lpmZ_valid (s : State) (d : BitVec 5) (h : (s.ptr .z).toNat < Config.pmBytes) :
    exec (.lpmZ d) s = .next ((s.setReg d (s.flash (s.ptr .z).toNat)).fall 1 3) :=
  s.next_progByte_valid h _

theorem exec_lpmZInc_valid (s : State) (d : BitVec 5) (h : (s.ptr .z).toNat < Config.pmBytes) :
    exec (.lpmZInc d) s =
      .next (((s.setReg d (s.flash (s.ptr .z).toNat)).setPtr .z (s.ptr .z + 1)).fall 1 3) :=
  s.next_progByte_valid h _

/-- R104: beyond program memory each form raises before it writes anything. -/
theorem exec_lpm_invalid (s : State) (d : BitVec 5) (h : ¬ (s.ptr .z).toNat < Config.pmBytes) :
    ∀ i ∈ [Instr.lpmR0, .lpmZ d, .lpmZInc d], exec i s = .next (s.raise (.programReadOutOfRange (s.ptr .z))) := by
  simp only [List.forall_mem_cons]
  exact ⟨s.next_progByte_invalid h _, s.next_progByte_invalid h _, s.next_progByte_invalid h _,
    List.forall_mem_nil _⟩

/-- Settles O42: inside program memory the byte is the half of the word that bit 0 of Z chooses; beyond it each form
raises. -/
theorem programMemoryLoads : Obligations.ProgramMemoryLoads := by
  intro s d
  refine ⟨rfl, rfl, rfl, fun hz => ?_, fun hz => exec_lpm_invalid s d (Nat.not_lt.mpr hz)⟩
  obtain ⟨w, hw, hbyte⟩ := s.flash_eq_half_of_progWord hz
  have hreg (q : BitVec 5) := (s.setReg_reg_same q _).trans hbyte
  exact ⟨⟨_, w, (exec_lpmR0 s).trans (exec_lpmZ_valid s 0 hz), hw, hreg 0, frame_setReg_fall ..⟩,
    ⟨_, w, exec_lpmZ_valid s d hz, hw, hreg d, frame_setReg_fall ..⟩,
    fun hd => ⟨_, w, exec_lpmZInc_valid s d hz, hw, (State.setPtr_reg_of_notMem _ .z _ hd).trans (hreg d),
      State.setPtr_ptr .., frame_setReg_setPtr_fall s d _ .z _ 1 3⟩⟩

end Sys2Proof.Machine
end

section
/-! PROOFS. The shifts, SWAP and the SREG and T transfers of 43_bit.md (R353 to R360): each result as arithmetic of the
operand, the end of a shift, and the end of a write of one SREG bit. -/

namespace Sys2Proof.Machine

open Claim

/-! ### The results of the shifts and of SWAP -/

theorem Byte.bit0_eq (x : Byte) : x.getLsbD 0 = decide (x.toNat % 2 = 1) := Nat.testBit_zero x.toNat

/-- R353: a shift to the right by one halves. -/
theorem Byte.ushiftRight_one_eq (a : Byte) : a >>> 1 = BitVec.ofNat 8 (a.toNat / 2) := by
  apply BitVec.eq_of_toNat_eq
  rw [BitVec.toNat_ushiftRight, Nat.shiftRight_one, BitVec.toNat_ofNat]
  omega

/-- R354: the halved byte has bit 7 clear, so the carry put there adds 128. -/
theorem State.rotated_eq (s : State) (a : Byte) :
    s.carryIn <<< 7 ||| a >>> 1 = BitVec.ofNat 8 (128 * carry s + a.toNat / 2) := by
  have hhalf : a.toNat / 2 < 2 ^ 7 := by omega
  have hcarry : carry s ≤ 1 := Bool.toNat_le _
  have htop : (s.carryIn <<< 7).toNat = carry s <<< 7 := by
    rw [BitVec.toNat_shiftLeft, State.carryIn_toNat, ← carry, Nat.shiftLeft_eq]
    omega
  apply BitVec.eq_of_toNat_eq
  rw [BitVec.toNat_or, htop, BitVec.toNat_ushiftRight, Nat.shiftRight_one, ← Nat.shiftLeft_add_eq_or_of_lt hhalf,
    Nat.shiftLeft_eq, BitVec.toNat_ofNat]
  omega

/-- R355: the logical shift with bit 7 put back is the shift that copies the sign, which halves the signed value. -/
theorem Byte.signKeepingHalf_eq (a : Byte) : a &&& (0x80 : Byte) ||| a >>> 1 = BitVec.ofInt 8 (a.toInt / 2) := by
  have hsign : a &&& (0x80 : Byte) ||| a >>> 1 = a.sshiftRight 1 := by
    apply BitVec.eq_of_getLsbD_eq
    intro i hi
    have hmask : ∀ j < 8, (0x80 : Byte).getLsbD j = decide (j = 7) := by decide
    rw [BitVec.getLsbD_or, BitVec.getLsbD_and, hmask i hi, BitVec.getLsbD_ushiftRight, BitVec.getLsbD_sshiftRight]
    by_cases h7 : i = 7
    · simp [h7, BitVec.msb_eq_getLsbD_last]
    · have hlow : 1 + i < 8 := by omega
      simp [h7, hlow, hi]
  rw [hsign, BitVec.sshiftRight, Int.shiftRight_eq_div_pow]
  rfl

/-- R356: the nibbles change places. -/
theorem Byte.toNat_nibblesSwapped (a : Byte) :
    (a.extractLsb' 0 4 ++ a.extractLsb' 4 4).toNat = 16 * (a.toNat % 16) + a.toNat / 16 := by
  rw [BitVec.toNat_append, ← Nat.shiftLeft_add_eq_or_of_lt (a.extractLsb' 4 4).isLt, BitVec.extractLsb'_toNat,
    BitVec.extractLsb'_toNat, Nat.shiftLeft_eq, Nat.shiftRight_zero, Nat.shiftRight_eq_div_pow]
  omega

/-! ### The shifts and SWAP -/

/-- The end of a shift is the end of an ALU instruction with the shift flags. -/
theorem shifts_shiftResult (s : State) (d : BitVec 5) (a r : Byte) : shifts d a r s (s.shiftResult d a r) := by
  have hC : (s.shiftResult d a r).flag bitC = a.getLsbD 0 := wordSreg_bit ..
  have hN : (s.shiftResult d a r).flag bitN = r.getLsbD 7 := wordSreg_bit ..
  have hV : (s.shiftResult d a r).flag bitV = (r.getLsbD 7 ^^ a.getLsbD 0) := wordSreg_bit ..
  exact ⟨State.aluResult_reg_same .., hC.trans (Byte.bit0_eq a), hN.trans (Byte.bit7_eq r), by rw [hV, hN, hC],
    wordSreg_sign .., wordSreg_bit .., aluFrame_aluResult _ _ _ wordSreg_kept⟩

/-- Settles O29: each shift is one end at its halved operand, and SWAP writes a register alone. -/
theorem shiftsAndSwap : Obligations.ShiftsAndSwap := by
  intro s d
  rw [← Byte.ushiftRight_one_eq, ← State.rotated_eq, ← Byte.signKeepingHalf_eq]
  exact ⟨⟨rfl, _, rfl, shifts_shiftResult ..⟩, ⟨rfl, _, rfl, shifts_shiftResult ..⟩,
    ⟨rfl, _, rfl, shifts_shiftResult ..⟩,
    ⟨rfl, _, rfl, (congrArg BitVec.toNat (State.setReg_reg_same ..)).trans (Byte.toNat_nibblesSwapped _),
      aluFrame_setReg ..⟩⟩

/-! ### BSET, BCLR, BST and BLD -/

/-- The end of an instruction that writes one SREG bit and nothing else. -/
theorem frame_setSregBit_fall (s : State) {i : Nat} (hi : i < 8) (v : Bool) :
    let t := (s.setSreg (setBit s.sreg i v)).fall 1 1
    t.flag i = v ∧ flagsKept [i] s t ∧ regsKept [] s t ∧ ramKept s t ∧ restKept s t ∧ ends 1 1 s t := by
  refine ⟨?written, fun j hj hne => ?kept, fun _ _ => rfl, fun _ => rfl, restKept_fall (s.setSreg _) 1 1, rfl, rfl⟩
  case written => exact (getLsbD_setBit_of_lt s.sreg i hi v).trans (if_pos rfl)
  case kept => exact (getLsbD_setBit_of_lt s.sreg i hj v).trans (if_neg (by simpa using hne))

/-- R357: BSET writes its SREG bit in the state whose irqInhibit is set if the bit is I. -/
theorem exec_bset (s : State) (b : BitVec 3) :
    let u := s.setIrqInhibit (s.irqInhibit || decide (b.toNat = 7))
    exec (.bset b) s = .next ((u.setSreg (setBit u.sreg b.toNat true)).fall 1 1) := by
  intro u
  have hI : (b == 7) = decide (b.toNat = 7) := beq_eq_decide_toNat ..
  rw [show u = s.setIrqInhibit (s.irqInhibit || b == 7) by rw [hI]]
  rfl

/-- Settles O30: BSET, BCLR and BST are the write of one SREG bit, BLD of one register with one bit replaced. -/
theorem flagAndBitTransfers : Obligations.FlagAndBitTransfers := by
  intro s b d
  refine ⟨⟨rfl, _, exec_bset s b, frame_setSregBit_fall (s.setIrqInhibit _) b.isLt true⟩,
    ⟨rfl, _, rfl, frame_setSregBit_fall s b.isLt false⟩, ⟨rfl, _, rfl, frame_setSregBit_fall s (by decide) _⟩,
    ⟨rfl, _, rfl, fun j hj => ?_, aluFrame_setReg ..⟩⟩
  rw [State.fall_reg, State.setReg_reg_same]
  exact getLsbD_setBit_of_lt _ _ hj _

end Sys2Proof.Machine
end

section
/-! PROOFS. NOP, WDR, SLEEP and BREAK of 44_mcu_control.md (R380 to R383): three fall through to the next word, SLEEP with
its mark of sleep made first, and BREAK is a raise. -/

namespace Sys2Proof.Machine

open Claim

/-- R36: falling through is a jump to the word after the instruction. -/
theorem jumps_fall (s : State) (words : Word) (cost : Nat) : jumps (s.pc + words) cost s (s.fall words cost) :=
  jumps_goto s (s.pc + words) cost

theorem exec_nop (s : State) : exec .nop s = .next (s.fall 1 1) := rfl

theorem exec_wdr (s : State) : exec .wdr s = .next (s.fall 1 1) := rfl

/-- R381 with SMCR.SE written as the bit it is. -/
theorem exec_sleep (s : State) :
    exec .sleep s = .next ((s.setSleeping (s.sleeping || s.smcr.getLsbD 0)).fall 1 1) := rfl

/-- R383: the halt record is all a raise writes, so pc and the cycle counter stay. -/
theorem exec_brk (s : State) : exec .brk s = .next { s with halted := some (.breakpoint s.pc) } := rfl

/-- Settles O46: NOP, WDR and SLEEP are a fall-through, SLEEP from the state its sleep mark leaves, and BREAK writes the
halt record alone. -/
theorem mcuControl : Obligations.McuControl := fun s =>
  ⟨⟨rfl, _, exec_nop s, jumps_fall s 1 1⟩, ⟨rfl, _, exec_wdr s, jumps_fall s 1 1⟩,
    ⟨rfl, _, exec_sleep s, jumps_fall (s.setSleeping (s.sleeping || s.smcr.getLsbD 0)) 1 1⟩, rfl, exec_brk s⟩

end Sys2Proof.Machine
end

section
/-! PROOFS. Compare outputs and their pins (R444, R451, R453, R454, R456, R482 60_exceptions.md): what an action leaves in
each PORT bit, what the four actions of a tick leave, and the strobes that force an action. -/

namespace Sys2Proof.Machine

open Claim

/-! ### What an action leaves in a PORT bit -/

/-- The bit an action leaves where it found `old`, on an output. -/
def PinAct.leaves (a : PinAct) (old : Bool) : Bool :=
  match a with
  | .keep => old
  | .set => true
  | .clear => false
  | .toggle => !old

/-- A port differs from another in its data register only if it keeps the directions and the injected levels. -/
theorem Port.eq_of_ddr_of_ext {p q : Port} (hddr : q.ddr = p.ddr) (hext : q.ext = p.ext) :
    q = { p with port := q.port } := by
  cases q
  subst hddr hext
  rfl

/-- R482: the action is dropped on an input. -/
theorem Port.act_of_input {p : Port} {n : Fin 8} (h : p.ddr.getLsbD n = false) (a : PinAct) : p.act n a = p := by
  simp only [Port.act, h, Bool.false_eq_true, if_false]

theorem Port.act_keep (p : Port) (n : Fin 8) : p.act n .keep = p := by
  simp only [Port.act, ite_self]

theorem Port.act_of_output {p : Port} {n : Fin 8} (h : p.ddr.getLsbD n = true) {j : Nat} (hj : j < 8) (a : PinAct) :
    (p.act n a).port.getLsbD j = if j = n.val then a.leaves (p.port.getLsbD j) else p.port.getLsbD j := by
  simp only [Port.act, h, if_true]
  cases a with
  | keep => exact (ite_self _).symm
  | set => exact getLsbD_setBit_of_lt _ _ hj _
  | clear => exact getLsbD_setBit_of_lt _ _ hj _
  | toggle =>
    refine (getLsbD_setBit_of_lt _ _ hj _).trans ?_
    split
    · next hjn => rw [hjn]; rfl
    · rfl

/-- R482: an action writes the bit of its pin, on an output, and no other. -/
theorem Port.act_port_bit (p : Port) (n : Fin 8) {j : Nat} (hj : j < 8) (a : PinAct) :
    (p.act n a).port.getLsbD j =
      if j = n.val ∧ p.ddr.getLsbD n = true then a.leaves (p.port.getLsbD j) else p.port.getLsbD j := by
  cases hddr : p.ddr.getLsbD n with
  | false => rw [Port.act_of_input hddr, if_neg (by simp)]
  | true => simp only [Port.act_of_output hddr hj, and_true]

/-! ### Pin actions on the state -/

theorem State.setPort_self (s : State) (p : PortId) : s.setPort p (s.portOf p) = s := by
  cases p <;> rfl

theorem State.pinAction_of_input {s : State} {t : TimerId} {x : Channel}
    (h : (s.portOf (outputPin t x).1).ddr.getLsbD (outputPin t x).2 = false) (a : PinAct) : s.pinAction t x a = s := by
  rw [State.pinAction, Port.act_of_input h, State.setPort_self]

theorem State.pinAction_keep (s : State) (t : TimerId) (x : Channel) : s.pinAction t x .keep = s := by
  rw [State.pinAction, Port.act_keep, State.setPort_self]

/-- An action replaces the data register of its pin's port, and nothing else. -/
theorem State.pinAction_eq (s : State) (t : TimerId) (x : Channel) (a : PinAct) :
    s.pinAction t x a = s.setPort (outputPin t x).1
      { s.portOf (outputPin t x).1 with port := ((s.portOf (outputPin t x).1).act (outputPin t x).2 a).port } :=
  congrArg (s.setPort (outputPin t x).1) (Port.eq_of_ddr_of_ext (Port.act_ddr _ _ a) (Port.act_ext _ _ a))

/-- R454: the four compare outputs and their pins. -/
theorem outputPin_rows :
    ∀ c ∈ [(TimerId.t0, Channel.a, PortId.d, (6 : Fin 8)), (.t0, .b, .d, 5), (.t1, .a, .b, 1), (.t1, .b, .b, 2)],
      outputPin c.1 c.2.1 = c.2.2 := by decide

/-! ### The four actions of a tick -/

/-- The actions of a tick on the port of both its compare outputs, `i` the pin of channel A and `k` that of channel B. -/
def Port.tickPins {n : Nat} (p : Port) (i k : Fin 8) (t : Timer n) (m : WaveMode n) (icr : BitVec n) : Port :=
  (((p.act i (t.tickMatch m icr .a)).act k (t.tickMatch m icr .b)).act i (t.tickBottom m icr .a)).act k
    (t.tickBottom m icr .b)

theorem State.tickPins_t0 {n : Nat} (s : State) (t : Timer n) (m : WaveMode n) (icr : BitVec n) :
    s.tickPins .t0 t m icr = { s with portD := s.portD.tickPins 6 5 t m icr } := rfl

theorem State.tickPins_t1 {n : Nat} (s : State) (t : Timer n) (m : WaveMode n) (icr : BitVec n) :
    s.tickPins .t1 t m icr = { s with portB := s.portB.tickPins 1 2 t m icr } := rfl

theorem Port.tickPins_eq {n : Nat} (p : Port) (i k : Fin 8) (t : Timer n) (m : WaveMode n) (icr : BitVec n) :
    p.tickPins i k t m icr = { p with port := (p.tickPins i k t m icr).port } :=
  Port.eq_of_ddr_of_ext (by simp only [Port.tickPins, Port.act_ddr]) (by simp only [Port.tickPins, Port.act_ext])

/-- A match action, if there is a match, and a bottom action after it, if the tick is a wrap: the table of R453. -/
theorem bottom_leaves_match {n : Nat} (m : WaveMode n) (com : BitVec 2) (x : Channel) (hit up wrap old : Bool) :
    (if wrap then bottomAction m com else .keep).leaves ((if hit then matchAction m com x up else .keep).leaves old) =
      pinAfter m.kind com.toNat (m.toggles x) hit up wrap old := by
  unfold bottomAction matchAction
  generalize m.toggles x = tog
  revert com hit up wrap old tog
  cases m.kind with
  | normal => decide
  | ctc => decide
  | fast => decide
  | pc => decide
  | pfc => decide
  | reserved => decide

theorem Timer.hits_a {n : Nat} (t : Timer n) (m : WaveMode n) :
    t.hits m .a = (!t.cmpBlock && decide (t.count = comparedA t m)) := rfl

theorem Timer.hits_b {n : Nat} (t : Timer n) (m : WaveMode n) :
    t.hits m .b = (!t.cmpBlock && decide (t.count = comparedB t m)) := rfl

theorem Timer.wraps_eq_wrapping {n : Nat} (t : Timer n) (m : WaveMode n) (icr : BitVec n) :
    t.wraps m icr = wrapping t m.kind (t.topVal m icr) := rfl

theorem WaveMode.isDual_eq {n : Nat} (m : WaveMode n) : m.isDual = !decide (m.kind ≠ .pc ∧ m.kind ≠ .pfc) := by
  unfold WaveMode.isDual
  cases m.kind <;> rfl

/-- moveUp as the claim writes it: always outside the dual-slope modes, by the direction and the ends of the slope in
them. -/
theorem Timer.movesUp_eq_movingUp {n : Nat} (t : Timer n) (m : WaveMode n) (icr : BitVec n) :
    t.movesUp m icr = movingUp t m.kind (t.topVal m icr) := by
  rw [Timer.movesUp, movingUp, WaveMode.isDual_eq]
  cases decide (m.kind ≠ .pc ∧ m.kind ≠ .pfc) with
  | true => rfl
  | false =>
    rw [Bool.decide_and, decide_not]
    rfl

/-- R453: channel B has no toggle in a PWM mode. -/
theorem WaveMode.toggles_b {n : Nat} (m : WaveMode n) : m.toggles .b = false := Bool.and_false _

theorem WaveMode.toggles_a {n : Nat} (m : WaveMode n) : m.toggles .a = m.toggleA := Bool.and_true _

theorem Timer.mode0_toggleA (t : Timer 8) : t.mode0.toggleA = decide (t.wgm0.toNat ∈ [5, 7]) := by
  have table : ∀ w : BitVec 3,
      (waveModes0.getD w.toNat (WaveMode.reserved 8)).toggleA = decide (w.toNat ∈ [5, 7]) := by decide
  exact table t.wgm0

theorem Timer.mode1_toggleA (t : Timer 16) : t.mode1.toggleA = decide (t.wgm1.toNat ∈ [9, 11, 14, 15]) := by
  have table : ∀ w : BitVec 4,
      (waveModes1.getD w.toNat (WaveMode.reserved 16)).toggleA = decide (w.toNat ∈ [9, 11, 14, 15]) := by decide
  exact table t.wgm1

/-- The bit a tick leaves at channel `x`, where it found `old`. -/
def Timer.pinBitAfter {n : Nat} (t : Timer n) (m : WaveMode n) (icr : BitVec n) (x : Channel) (old : Bool) : Bool :=
  (t.tickBottom m icr x).leaves ((t.tickMatch m icr x).leaves old)

theorem Timer.pinBitAfter_a {n : Nat} (t : Timer n) (m : WaveMode n) (icr : BitVec n) (old : Bool) :
    t.pinBitAfter m icr .a old =
      pinAfter m.kind (t.com .a).toNat m.toggleA (!t.cmpBlock && decide (t.count = comparedA t m))
        (movingUp t m.kind (t.topVal m icr)) (wrapping t m.kind (t.topVal m icr)) old := by
  rw [← WaveMode.toggles_a, ← Timer.hits_a, ← Timer.movesUp_eq_movingUp, ← Timer.wraps_eq_wrapping]
  exact bottom_leaves_match m (t.com .a) .a (t.hits m .a) (t.movesUp m icr) (t.wraps m icr) old

theorem Timer.pinBitAfter_b {n : Nat} (t : Timer n) (m : WaveMode n) (icr : BitVec n) (old : Bool) :
    t.pinBitAfter m icr .b old =
      pinAfter m.kind (t.com .b).toNat false (!t.cmpBlock && decide (t.count = comparedB t m))
        (movingUp t m.kind (t.topVal m icr)) (wrapping t m.kind (t.topVal m icr)) old := by
  rw [← WaveMode.toggles_b m, ← Timer.hits_b, ← Timer.movesUp_eq_movingUp, ← Timer.wraps_eq_wrapping]
  exact bottom_leaves_match m (t.com .b) .b (t.hits m .b) (t.movesUp m icr) (t.wraps m icr) old

/-- Each bit after a tick: the two compare outputs by their own channel's actions, every other pin and every input kept. -/
theorem Port.tickPins_port_bit {n : Nat} (p : Port) {i k : Fin 8} (hik : i ≠ k) (t : Timer n) (m : WaveMode n)
    (icr : BitVec n) {j : Nat} (hj : j < 8) :
    (p.tickPins i k t m icr).port.getLsbD j =
      if p.ddr.getLsbD j = false then p.port.getLsbD j
      else if j = i.val then t.pinBitAfter m icr .a (p.port.getLsbD j)
      else if j = k.val then t.pinBitAfter m icr .b (p.port.getLsbD j)
      else p.port.getLsbD j := by
  have hik' : i.val ≠ k.val := fun h => hik (Fin.ext h)
  simp only [Port.tickPins, Port.act_port_bit _ _ hj, Port.act_ddr, Timer.pinBitAfter]
  by_cases hi : j = i.val
  · subst hi
    cases hddr : p.ddr.getLsbD i <;> simp [hik']
  · by_cases hk : j = k.val
    · subst hk
      cases hddr : p.ddr.getLsbD k <;> simp [hi]
    · simp [hi, hk]

/-- R451 with the port's part written out, in a mode that is not reserved. -/
theorem State.tick0_eq {s : State} (h : s.timer0.mode0.kind ≠ .reserved) : s.tick0 = { s with
    timer0 := s.timer0.tick s.timer0.mode0 0
    portD := { s.portD with port := (s.portD.tickPins 6 5 s.timer0 s.timer0.mode0 0).port } } := by
  rw [State.tick0, if_neg h, State.tickPins_t0, Port.tickPins_eq]

theorem State.tick1_eq {s : State} (h : s.timer1.mode1.kind ≠ .reserved) : s.tick1 = { s with
    timer1 := s.timer1.tick s.timer1.mode1 s.icr1
    portB := { s.portB with port := (s.portB.tickPins 1 2 s.timer1 s.timer1.mode1 s.icr1).port } } := by
  rw [State.tick1, if_neg h, State.tickPins_t1, Port.tickPins_eq]

/-- Settles O51: one pin action by the bit it leaves, and a tick by the four actions it takes, the bottom of each channel
after its match. -/
theorem pinActionWritesPort : Obligations.PinActionWritesPort := by
  refine ⟨fun s c hc => ?_, fun s hkind => ?_, fun s hkind => ?_⟩
  · have hpin := outputPin_rows c hc
    rw [← hpin]
    exact ⟨fun hin => s.pinAction_of_input hin, s.pinAction_keep c.1 c.2.1,
      fun a => ⟨_, s.pinAction_eq c.1 c.2.1 a, fun j hj => Port.act_port_bit _ _ hj a⟩⟩
  · refine ⟨_, State.tick0_eq hkind, fun j hj => ?_⟩
    rw [Port.tickPins_port_bit _ (by decide) _ _ _ hj, Timer.pinBitAfter_a, Timer.pinBitAfter_b, Timer.mode0_toggleA]
    rfl
  · refine ⟨_, State.tick1_eq hkind, fun j hj => ?_⟩
    rw [Port.tickPins_port_bit _ (by decide) _ _ _ hj, Timer.pinBitAfter_a, Timer.pinBitAfter_b, Timer.mode1_toggleA]
    rfl

/-! ### Force output compare (R456) -/

/-- A strobe's action depends on the kind and the compare output mode only: channel A's toggle in a PWM mode is none of
its. -/
theorem forceAction_eq_forced {n : Nat} (m : WaveMode n) (com : BitVec 2) (x : Channel) (strobe : Bool) :
    forceAction m com x strobe = forced m.kind com strobe := by
  unfold forceAction matchAction
  generalize m.toggles x = tog
  revert com strobe tog
  cases m.kind with
  | normal => decide
  | ctc => decide
  | fast => decide
  | pc => decide
  | pfc => decide
  | reserved => decide

/-- CS is among the bits of TCCR0B that are stored. -/
theorem cs_of_masked (v : Byte) : (v &&& maskTccr0b).extractLsb' 0 3 = v.extractLsb' 0 3 := by
  rw [BitVec.extractLsb'_and]
  exact BitVec.and_allOnes

theorem Timer.writeTccrB_maskTccr0b (t : Timer 8) (v : Byte) : t.writeTccrB maskTccr0b v = { t with
    tccrB := v &&& maskTccr0b
    psc := if v.extractLsb' 0 3 = t.tccrB.extractLsb' 0 3 then t.psc else 0 } := by
  rw [Timer.writeTccrB, cs_of_masked]
  rfl

/-- The state a write of TCCR0B leaves before its strobes act. -/
def State.withTccr0b (s : State) (v : Byte) : State := { s with timer0 := s.timer0.writeTccrB maskTccr0b v }

theorem State.writeAt_tccr1c (s : State) (v : Byte) : s.writeAt 0x82 v =
    (s.pinAction .t1 .a (forced s.timer1.mode1.kind (s.timer1.com .a) (v.getLsbD 7))).pinAction .t1 .b
      (forced s.timer1.mode1.kind (s.timer1.com .b) (v.getLsbD 6)) := by
  have hroute : route 0x82 = .io .tccr1c := by decide
  rw [State.writeAt_io s hroute, State.writeIo, State.force1, forceAction_eq_forced, forceAction_eq_forced]

theorem State.writeAt_tccr0b (s : State) (v : Byte) : s.writeAt 0x45 v =
    ((s.withTccr0b v).pinAction .t0 .a
      (forced (s.withTccr0b v).timer0.mode0.kind ((s.withTccr0b v).timer0.com .a) (v.getLsbD 7))).pinAction .t0 .b
        (forced (s.withTccr0b v).timer0.mode0.kind ((s.withTccr0b v).timer0.com .b) (v.getLsbD 6)) := by
  have hroute : route 0x45 = .io .tccr0b := by decide
  rw [State.writeAt_io s hroute, State.writeIo, State.force0, forceAction_eq_forced, forceAction_eq_forced]
  rfl

theorem State.writeAt_tccr1c_timer1 (s : State) (v : Byte) : (s.writeAt 0x82 v).timer1 = s.timer1 := by
  rw [State.writeAt_tccr1c, State.pinAction_timer1, State.pinAction_timer1]

theorem State.writeAt_tccr0b_timer0 (s : State) (v : Byte) :
    (s.writeAt 0x45 v).timer0 = s.timer0.writeTccrB maskTccr0b v := by
  rw [State.writeAt_tccr0b, State.pinAction_timer0, State.pinAction_timer0, State.withTccr0b]

/-- The strobes are not stored, so TCCR0B reads back its four bits. -/
theorem State.readAt_writeAt_tccr0b (s : State) (v : Byte) : ((s.writeAt 0x45 v).readAt 0x45).1 = v &&& maskTccr0b := by
  have hroute : route 0x45 = .io .tccr0b := by decide
  rw [State.readAt_io _ hroute, State.readIo, State.writeAt_tccr0b_timer0]
  exact (BitVec.and_assoc v _ _).trans (congrArg (v &&& ·) BitVec.and_self)

/-- Settles O56: a write of either register is its strobes' pin actions, TCCR0B's from the state its stored bits leave; and
pin actions keep the timers. -/
theorem forceOutputCompare : Obligations.ForceOutputCompare := by
  intro s v
  refine ⟨s.writeAt_tccr1c v, ?_, ⟨s.writeAt_tccr1c_timer1 v, ?_, ?_, ?_⟩, rfl, s.readAt_writeAt_tccr0b v⟩
  · have hwrite := s.writeAt_tccr0b v
    rw [State.withTccr0b, Timer.writeTccrB_maskTccr0b] at hwrite
    exact hwrite
  all_goals rw [State.writeAt_tccr0b_timer0]; rfl

end Sys2Proof.Machine
end

section
/-! PROOFS. Encoding and decoding (R153, R156, R163, R185 30_encoding.md): the operand fields of an encoded word are its
operands, a word of a row is the encoding of its fields, and so each of the two round trips. -/

namespace Sys2Proof

/-! ### The formats of R153

For each format, `_fields` says which bits of its words are fixed and that the fields of an encoded word are the
operands; `_of_fields` says that a word with those fixed bits is the encoding of its fields. Both compare bit by bit. -/

theorem encRR_fields (op : BitVec 6) (d r : BitVec 5) :
    encRR op d r &&& 0xFC00 = op ++ 0#10 ∧ d5 (encRR op d r) = d ∧ r5 (encRR op d r) = r := by
  refine ⟨?_, ?_, ?_⟩ <;> apply BitVec.eq_of_getLsbD_eq <;> intro i hi <;>
    simp only [encRR, d5, r5, BitVec.getLsbD_append, BitVec.getLsbD_extractLsb', BitVec.getLsbD_and] <;>
    interval_cases i <;> simp

theorem encRR_of_fields {w : Word} {op : BitVec 6} (h : w &&& 0xFC00 = op ++ 0#10) :
    encRR op (d5 w) (r5 w) = w := by
  apply BitVec.eq_of_getLsbD_eq
  intro i hi
  have hbit := congrArg (·.getLsbD i) h
  simp only [encRR, d5, r5, BitVec.getLsbD_append, BitVec.getLsbD_extractLsb', BitVec.getLsbD_and] at hbit ⊢
  interval_cases i <;> simp_all

theorem encRK_fields (op : BitVec 4) (d : BitVec 5) (k : BitVec 8) :
    encRK op d k &&& 0xF000 = op ++ 0#12 ∧ dUpper (encRK op d k) = 0b1#1 ++ d.extractLsb' 0 4 ∧
      k8 (encRK op d k) = k := by
  refine ⟨?_, ?_, ?_⟩ <;> apply BitVec.eq_of_getLsbD_eq <;> intro i hi <;>
    simp only [encRK, dUpper, k8, BitVec.getLsbD_append, BitVec.getLsbD_extractLsb', BitVec.getLsbD_and] <;>
    interval_cases i <;> simp

theorem encRK_of_fields {w : Word} {op : BitVec 4} (h : w &&& 0xF000 = op ++ 0#12) :
    encRK op (dUpper w) (k8 w) = w := by
  apply BitVec.eq_of_getLsbD_eq
  intro i hi
  have hbit := congrArg (·.getLsbD i) h
  simp only [encRK, dUpper, k8, BitVec.getLsbD_append, BitVec.getLsbD_extractLsb', BitVec.getLsbD_and] at hbit ⊢
  interval_cases i <;> simp_all

theorem encR1_fields (op : BitVec 7) (d : BitVec 5) (low : BitVec 4) :
    encR1 op d low &&& 0xFE0F = op ++ 0#5 ++ low ∧ d5 (encR1 op d low) = d := by
  refine ⟨?_, ?_⟩ <;> apply BitVec.eq_of_getLsbD_eq <;> intro i hi <;>
    simp only [encR1, d5, BitVec.getLsbD_append, BitVec.getLsbD_extractLsb', BitVec.getLsbD_and] <;>
    interval_cases i <;> simp

theorem encR1_of_fields {w : Word} {op : BitVec 7} {low : BitVec 4} (h : w &&& 0xFE0F = op ++ 0#5 ++ low) :
    encR1 op (d5 w) low = w := by
  apply BitVec.eq_of_getLsbD_eq
  intro i hi
  have hbit := congrArg (·.getLsbD i) h
  simp only [encR1, d5, BitVec.getLsbD_append, BitVec.getLsbD_extractLsb', BitVec.getLsbD_and] at hbit ⊢
  interval_cases i <;> simp_all

theorem encRW_fields (op : BitVec 8) (d : BitVec 5) (k : BitVec 6) :
    encRW op d k &&& 0xFF00 = op ++ 0#8 ∧ dPair (encRW op d k) = 0b11#2 ++ d.extractLsb' 1 2 ++ 0b0#1 ∧
      k6 (encRW op d k) = k := by
  refine ⟨?_, ?_, ?_⟩ <;> apply BitVec.eq_of_getLsbD_eq <;> intro i hi <;>
    simp only [encRW, dPair, k6, BitVec.getLsbD_append, BitVec.getLsbD_extractLsb', BitVec.getLsbD_and] <;>
    interval_cases i <;> simp

theorem encRW_of_fields {w : Word} {op : BitVec 8} (h : w &&& 0xFF00 = op ++ 0#8) :
    encRW op (dPair w) (k6 w) = w := by
  apply BitVec.eq_of_getLsbD_eq
  intro i hi
  have hbit := congrArg (·.getLsbD i) h
  simp only [encRW, dPair, k6, BitVec.getLsbD_append, BitVec.getLsbD_extractLsb', BitVec.getLsbD_and] at hbit ⊢
  interval_cases i <;> simp_all

theorem encMovw_fields (d r : BitVec 5) :
    encMovw d r &&& 0xFF00 = 0x0100 ∧ dEven (encMovw d r) = d.extractLsb' 1 4 ++ 0b0#1 ∧
      rEven (encMovw d r) = r.extractLsb' 1 4 ++ 0b0#1 := by
  refine ⟨?_, ?_, ?_⟩ <;> apply BitVec.eq_of_getLsbD_eq <;> intro i hi <;>
    simp only [encMovw, dEven, rEven, BitVec.getLsbD_append, BitVec.getLsbD_extractLsb', BitVec.getLsbD_and] <;>
    interval_cases i <;> simp

theorem encMovw_of_fields {w : Word}  (h : w &&& 0xFF00 = 0x0100) :
    encMovw (dEven w) (rEven w) = w := by
  apply BitVec.eq_of_getLsbD_eq
  intro i hi
  have hbit := congrArg (·.getLsbD i) h
  simp only [encMovw, dEven, rEven, BitVec.getLsbD_append, BitVec.getLsbD_extractLsb', BitVec.getLsbD_and] at hbit ⊢
  interval_cases i <;> simp_all

theorem encMuls_fields (d r : BitVec 5) :
    encMuls d r &&& 0xFF00 = 0x0200 ∧ dUpper (encMuls d r) = 0b1#1 ++ d.extractLsb' 0 4 ∧
      rUpper (encMuls d r) = 0b1#1 ++ r.extractLsb' 0 4 := by
  refine ⟨?_, ?_, ?_⟩ <;> apply BitVec.eq_of_getLsbD_eq <;> intro i hi <;>
    simp only [encMuls, dUpper, rUpper, BitVec.getLsbD_append, BitVec.getLsbD_extractLsb', BitVec.getLsbD_and] <;>
    interval_cases i <;> simp

theorem encMuls_of_fields {w : Word}  (h : w &&& 0xFF00 = 0x0200) :
    encMuls (dUpper w) (rUpper w) = w := by
  apply BitVec.eq_of_getLsbD_eq
  intro i hi
  have hbit := congrArg (·.getLsbD i) h
  simp only [encMuls, dUpper, rUpper, BitVec.getLsbD_append, BitVec.getLsbD_extractLsb', BitVec.getLsbD_and] at hbit ⊢
  interval_cases i <;> simp_all

theorem encM3_fields (o7 : BitVec 1) (d : BitVec 5) (o3 : BitVec 1) (r : BitVec 5) :
    encM3 o7 d o3 r &&& 0xFF88 = 0b00000011#8 ++ o7 ++ 0#3 ++ o3 ++ 0#3 ∧
      dMid (encM3 o7 d o3 r) = 0b10#2 ++ d.extractLsb' 0 3 ∧
      rMid (encM3 o7 d o3 r) = 0b10#2 ++ r.extractLsb' 0 3 := by
  refine ⟨?_, ?_, ?_⟩ <;> apply BitVec.eq_of_getLsbD_eq <;> intro i hi <;>
    simp only [encM3, dMid, rMid, BitVec.getLsbD_append, BitVec.getLsbD_extractLsb', BitVec.getLsbD_and] <;>
    interval_cases i <;> simp

theorem encM3_of_fields {w : Word} {o7 o3 : BitVec 1} (h : w &&& 0xFF88 = 0b00000011#8 ++ o7 ++ 0#3 ++ o3 ++ 0#3) :
    encM3 o7 (dMid w) o3 (rMid w) = w := by
  apply BitVec.eq_of_getLsbD_eq
  intro i hi
  have hbit := congrArg (·.getLsbD i) h
  simp only [encM3, dMid, rMid, BitVec.getLsbD_append, BitVec.getLsbD_extractLsb', BitVec.getLsbD_and] at hbit ⊢
  interval_cases i <;> simp_all

theorem encQ_fields (q : BitVec 6) (s : BitVec 1) (d : BitVec 5) (y : BitVec 1) :
    encQ q s d y &&& 0xD208 = 0b10#2 ++ 0#4 ++ s ++ 0#5 ++ y ++ 0#3 ∧ q6 (encQ q s d y) = q ∧
      d5 (encQ q s d y) = d := by
  refine ⟨?_, ?_, ?_⟩ <;> apply BitVec.eq_of_getLsbD_eq <;> intro i hi <;>
    simp only [encQ, q6, d5, BitVec.getLsbD_append, BitVec.getLsbD_extractLsb', BitVec.getLsbD_and] <;>
    interval_cases i <;> simp

theorem encQ_of_fields {w : Word} {s y : BitVec 1} (h : w &&& 0xD208 = 0b10#2 ++ 0#4 ++ s ++ 0#5 ++ y ++ 0#3) :
    encQ (q6 w) s (d5 w) y = w := by
  apply BitVec.eq_of_getLsbD_eq
  intro i hi
  have hbit := congrArg (·.getLsbD i) h
  simp only [encQ, q6, d5, BitVec.getLsbD_append, BitVec.getLsbD_extractLsb', BitVec.getLsbD_and] at hbit ⊢
  interval_cases i <;> simp_all

theorem encIO_fields (s : BitVec 1) (d : BitVec 5) (a : BitVec 6) :
    encIO s d a &&& 0xF800 = 0b1011#4 ++ s ++ 0#11 ∧ d5 (encIO s d a) = d ∧ a6 (encIO s d a) = a := by
  refine ⟨?_, ?_, ?_⟩ <;> apply BitVec.eq_of_getLsbD_eq <;> intro i hi <;>
    simp only [encIO, d5, a6, BitVec.getLsbD_append, BitVec.getLsbD_extractLsb', BitVec.getLsbD_and] <;>
    interval_cases i <;> simp

theorem encIO_of_fields {w : Word} {s : BitVec 1} (h : w &&& 0xF800 = 0b1011#4 ++ s ++ 0#11) :
    encIO s (d5 w) (a6 w) = w := by
  apply BitVec.eq_of_getLsbD_eq
  intro i hi
  have hbit := congrArg (·.getLsbD i) h
  simp only [encIO, d5, a6, BitVec.getLsbD_append, BitVec.getLsbD_extractLsb', BitVec.getLsbD_and] at hbit ⊢
  interval_cases i <;> simp_all

theorem encIOB_fields (op : BitVec 2) (a : BitVec 5) (b : BitVec 3) :
    encIOB op a b &&& 0xFF00 = 0b100110#6 ++ op ++ 0#8 ∧ a5 (encIOB op a b) = a ∧ b3 (encIOB op a b) = b := by
  refine ⟨?_, ?_, ?_⟩ <;> apply BitVec.eq_of_getLsbD_eq <;> intro i hi <;>
    simp only [encIOB, a5, b3, BitVec.getLsbD_append, BitVec.getLsbD_extractLsb', BitVec.getLsbD_and] <;>
    interval_cases i <;> simp

theorem encIOB_of_fields {w : Word} {op : BitVec 2} (h : w &&& 0xFF00 = 0b100110#6 ++ op ++ 0#8) :
    encIOB op (a5 w) (b3 w) = w := by
  apply BitVec.eq_of_getLsbD_eq
  intro i hi
  have hbit := congrArg (·.getLsbD i) h
  simp only [encIOB, a5, b3, BitVec.getLsbD_append, BitVec.getLsbD_extractLsb', BitVec.getLsbD_and] at hbit ⊢
  interval_cases i <;> simp_all

theorem encRB_fields (op : BitVec 2) (r : BitVec 5) (b : BitVec 3) :
    encRB op r b &&& 0xFE08 = 0b11111#5 ++ op ++ 0#9 ∧ d5 (encRB op r b) = r ∧ b3 (encRB op r b) = b := by
  refine ⟨?_, ?_, ?_⟩ <;> apply BitVec.eq_of_getLsbD_eq <;> intro i hi <;>
    simp only [encRB, d5, b3, BitVec.getLsbD_append, BitVec.getLsbD_extractLsb', BitVec.getLsbD_and] <;>
    interval_cases i <;> simp

theorem encRB_of_fields {w : Word} {op : BitVec 2} (h : w &&& 0xFE08 = 0b11111#5 ++ op ++ 0#9) :
    encRB op (d5 w) (b3 w) = w := by
  apply BitVec.eq_of_getLsbD_eq
  intro i hi
  have hbit := congrArg (·.getLsbD i) h
  simp only [encRB, d5, b3, BitVec.getLsbD_append, BitVec.getLsbD_extractLsb', BitVec.getLsbD_and] at hbit ⊢
  interval_cases i <;> simp_all

theorem encBR_fields (o : BitVec 1) (s : BitVec 3) (k : BitVec 7) :
    encBR o s k &&& 0xFC00 = 0b11110#5 ++ o ++ 0#10 ∧ b3 (encBR o s k) = s ∧ k7 (encBR o s k) = k := by
  refine ⟨?_, ?_, ?_⟩ <;> apply BitVec.eq_of_getLsbD_eq <;> intro i hi <;>
    simp only [encBR, b3, k7, BitVec.getLsbD_append, BitVec.getLsbD_extractLsb', BitVec.getLsbD_and] <;>
    interval_cases i <;> simp

theorem encBR_of_fields {w : Word} {o : BitVec 1} (h : w &&& 0xFC00 = 0b11110#5 ++ o ++ 0#10) :
    encBR o (b3 w) (k7 w) = w := by
  apply BitVec.eq_of_getLsbD_eq
  intro i hi
  have hbit := congrArg (·.getLsbD i) h
  simp only [encBR, b3, k7, BitVec.getLsbD_append, BitVec.getLsbD_extractLsb', BitVec.getLsbD_and] at hbit ⊢
  interval_cases i <;> simp_all

theorem encRJ_fields (o : BitVec 1) (k : BitVec 12) :
    encRJ o k &&& 0xF000 = 0b110#3 ++ o ++ 0#12 ∧ k12 (encRJ o k) = k := by
  refine ⟨?_, ?_⟩ <;> apply BitVec.eq_of_getLsbD_eq <;> intro i hi <;>
    simp only [encRJ, k12, BitVec.getLsbD_append, BitVec.getLsbD_extractLsb', BitVec.getLsbD_and] <;>
    interval_cases i <;> simp

theorem encRJ_of_fields {w : Word} {o : BitVec 1} (h : w &&& 0xF000 = 0b110#3 ++ o ++ 0#12) :
    encRJ o (k12 w) = w := by
  apply BitVec.eq_of_getLsbD_eq
  intro i hi
  have hbit := congrArg (·.getLsbD i) h
  simp only [encRJ, k12, BitVec.getLsbD_append, BitVec.getLsbD_extractLsb', BitVec.getLsbD_and] at hbit ⊢
  interval_cases i <;> simp_all

theorem encS_fields (o : BitVec 1) (s : BitVec 3) :
    encS o s &&& 0xFF8F = 0b10010100#8 ++ o ++ 0#3 ++ 0b1000#4 ∧ s3 (encS o s) = s := by
  refine ⟨?_, ?_⟩ <;> apply BitVec.eq_of_getLsbD_eq <;> intro i hi <;>
    simp only [encS, s3, BitVec.getLsbD_append, BitVec.getLsbD_extractLsb', BitVec.getLsbD_and] <;>
    interval_cases i <;> simp

theorem encS_of_fields {w : Word} {o : BitVec 1} (h : w &&& 0xFF8F = 0b10010100#8 ++ o ++ 0#3 ++ 0b1000#4) :
    encS o (s3 w) = w := by
  apply BitVec.eq_of_getLsbD_eq
  intro i hi
  have hbit := congrArg (·.getLsbD i) h
  simp only [encS, s3, BitVec.getLsbD_append, BitVec.getLsbD_extractLsb', BitVec.getLsbD_and] at hbit ⊢
  interval_cases i <;> simp_all

theorem encLong_fields (o : BitVec 1) (k : BitVec 22) :
    encLong o k &&& 0xFE0E = 0b1001010#7 ++ 0#5 ++ 0b11#2 ++ o ++ 0#1 ∧
      ∀ w2, k22 (encLong o k) w2 = k.extractLsb' 16 6 ++ w2 := by
  refine ⟨?_, fun w2 => ?_⟩ <;> apply BitVec.eq_of_getLsbD_eq <;> intro i hi <;>
    simp only [encLong, k22, BitVec.getLsbD_append, BitVec.getLsbD_extractLsb', BitVec.getLsbD_and] <;>
    interval_cases i <;> simp

theorem encLong_of_fields {w : Word} {o : BitVec 1}
    (h : w &&& 0xFE0E = 0b1001010#7 ++ 0#5 ++ 0b11#2 ++ o ++ 0#1) (w2 : Word) :
    encLong o (k22 w w2) = w := by
  apply BitVec.eq_of_getLsbD_eq
  intro i hi
  have hbit := congrArg (·.getLsbD i) h
  simp only [encLong, k22, BitVec.getLsbD_append, BitVec.getLsbD_extractLsb', BitVec.getLsbD_and] at hbit ⊢
  interval_cases i <;> simp_all

/-! ### The rows in the order of the constructors -/

theorem Instr.ctorIdx_lt (i : Instr) : i.ctorIdx < opcodeRows.length := by
  cases i <;> exact Nat.le_of_ble_eq_true rfl

/-- The row of R185 an instruction is built by: the rows stand in the order of the constructors. -/
def Instr.row (i : Instr) : Row := opcodeRows[i.ctorIdx]'i.ctorIdx_lt

theorem Instr.row_mem (i : Instr) : i.row ∈ opcodeRows := List.getElem_mem _

/-- LDS, STS, JMP and CALL (R150). -/
def Instr.isLong : Instr → Bool
  | .lds _ _ | .sts _ _ | .jmp _ | .call _ => true
  | _ => false

/-- A row builds instructions of its own place in the table, long ones where its pattern is a two-word first word. -/
theorem opcodeRows_build : ∀ r ∈ opcodeRows, ∀ w w2,
    (r.build w w2).row = r ∧ (r.build w w2).isLong = isTwoWord r.pattern := by
  unfold opcodeRows
  repeat refine List.forall_mem_cons.mpr ⟨fun _ _ => ⟨rfl, rfl⟩, ?_⟩
  exact List.forall_mem_nil _

/-- The second word of an instruction, 0 where it has one word only. -/
def secondWord (i : Instr) : Word := (encode i).getD 1 0

/-! ### The registers a constrained field reaches (R32 10_state.md) -/

theorem upper_eq {d : BitVec 5} (h : Operand.upper d = true) : 0b1#1 ++ d.extractLsb' 0 4 = d := by
  revert d; decide
theorem mid_eq {d : BitVec 5} (h : Operand.mid d = true) : 0b10#2 ++ d.extractLsb' 0 3 = d := by
  revert d; decide
theorem pairTop_eq {d : BitVec 5} (h : Operand.pairTop d = true) : 0b11#2 ++ d.extractLsb' 1 2 ++ 0b0#1 = d := by
  revert d; decide
theorem even_eq {d : BitVec 5} (h : Operand.even d = true) : d.extractLsb' 1 4 ++ 0b0#1 = d := by
  revert d; decide
/-- The operand of JMP and CALL is its part in the first word and the second word. -/
theorem longField_eq (k : BitVec 22) : k.extractLsb' 16 6 ++ k.extractLsb' 0 16 = k :=
  (BitVec.extractLsb'_append_extractLsb'_eq_extractLsb' (start₁ := 0) (len₁ := 16) rfl).trans BitVec.extractLsb'_eq_self

/-! ### Each instruction and its row -/

theorem encodeFirst_row (i : Instr) : encodeFirst i &&& i.row.mask = i.row.pattern := by
  cases i with
  | add d r | adc d r | sub d r | sbc d r | and d r | or d r | eor d r | mul d r | cpse d r | cp d r | cpc d r
  | mov d r => exact (encRR_fields _ d r).1
  | subi d k | sbci d k | andi d k | ori d k | cpi d k | ldi d k => exact (encRK_fields _ d k).1
  | adiw d k | sbiw d k => exact (encRW_fields _ d k).1
  | com d | neg d | inc d | dec d | lsr d | ror d | asr d | swap d | ldX d | ldXInc d | ldXDec d | ldYInc d
  | ldYDec d | ldZInc d | ldZDec d | lds d k | stX d | stXInc d | stXDec d | stYInc d | stYDec d | stZInc d | stZDec d
  | sts k d | lpmZ d | lpmZInc d | push d | pop d => exact (encR1_fields _ d _).1
  | muls d r => exact (encMuls_fields d r).1
  | mulsu d r | fmul d r | fmuls d r | fmulsu d r => exact (encM3_fields _ d _ r).1
  | movw d r => exact (encMovw_fields d r).1
  | lddY d q | lddZ d q | stdY q d | stdZ q d => exact (encQ_fields q _ d _).1
  | inIo d a | outIo a d => exact (encIO_fields _ d a).1
  | sbi a b | cbi a b | sbic a b | sbis a b => exact (encIOB_fields _ a b).1
  | bst d b | bld d b | sbrc d b | sbrs d b => exact (encRB_fields _ d b).1
  | brbs b k | brbc b k => exact (encBR_fields _ b k).1
  | rjmp k | rcall k => exact (encRJ_fields _ k).1
  | bset b | bclr b => exact (encS_fields _ b).1
  | jmp k | call k => exact (encLong_fields _ k).1
  | ijmp | icall | ret | reti | lpmR0 | nop | sleep | wdr | brk => rfl

/-- The row reads the operands of a well-formed instruction back from its words. -/
theorem build_encodeFirst (i : Instr) (h : i.wellFormed = true) : i.row.build (encodeFirst i) (secondWord i) = i := by
  cases i with
  | add d r | adc d r | sub d r | sbc d r | and d r | or d r | eor d r | mul d r | cpse d r | cp d r | cpc d r
  | mov d r =>
    obtain ⟨-, hd, hr⟩ := encRR_fields _ d r
    exact congrArg₂ _ hd hr
  | subi d k | sbci d k | andi d k | ori d k | cpi d k | ldi d k =>
    obtain ⟨-, hd, hk⟩ := encRK_fields _ d k
    exact congrArg₂ _ (hd.trans (upper_eq h)) hk
  | adiw d k | sbiw d k =>
    obtain ⟨-, hd, hk⟩ := encRW_fields _ d k
    exact congrArg₂ _ (hd.trans (pairTop_eq h)) hk
  | com d | neg d | inc d | dec d | lsr d | ror d | asr d | swap d | ldX d | ldXInc d | ldXDec d | ldYInc d
  | ldYDec d | ldZInc d | ldZDec d | stX d | stXInc d | stXDec d | stYInc d | stYDec d | stZInc d | stZDec d
  | lpmZ d | lpmZInc d | push d | pop d => exact congrArg _ (encR1_fields _ d _).2
  | lds d k => exact congrArg (Instr.lds · k) (encR1_fields _ d _).2
  | sts k d => exact congrArg (Instr.sts k) (encR1_fields _ d _).2
  | muls d r =>
    obtain ⟨hupd, hupr⟩ := Bool.and_eq_true_iff.mp h
    obtain ⟨-, hd, hr⟩ := encMuls_fields d r
    exact congrArg₂ _ (hd.trans (upper_eq hupd)) (hr.trans (upper_eq hupr))
  | mulsu d r | fmul d r | fmuls d r | fmulsu d r =>
    obtain ⟨hmidd, hmidr⟩ := Bool.and_eq_true_iff.mp h
    obtain ⟨-, hd, hr⟩ := encM3_fields _ d _ r
    exact congrArg₂ _ (hd.trans (mid_eq hmidd)) (hr.trans (mid_eq hmidr))
  | movw d r =>
    obtain ⟨hevd, hevr⟩ := Bool.and_eq_true_iff.mp h
    obtain ⟨-, hd, hr⟩ := encMovw_fields d r
    exact congrArg₂ _ (hd.trans (even_eq hevd)) (hr.trans (even_eq hevr))
  | lddY d q | lddZ d q =>
    obtain ⟨-, hq, hd⟩ := encQ_fields q _ d _
    exact congrArg₂ _ hd hq
  | stdY q d =>
    obtain ⟨-, hq, hd⟩ := encQ_fields q _ d _
    exact congrArg₂ Instr.stdY hq hd
  | stdZ q d =>
    obtain ⟨-, hq, hd⟩ := encQ_fields q _ d _
    exact congrArg₂ Instr.stdZ hq hd
  | inIo d a =>
    obtain ⟨-, hd, ha⟩ := encIO_fields _ d a
    exact congrArg₂ _ hd ha
  | outIo a d =>
    obtain ⟨-, hd, ha⟩ := encIO_fields _ d a
    exact congrArg₂ Instr.outIo ha hd
  | sbi a b | cbi a b | sbic a b | sbis a b =>
    obtain ⟨-, ha, hb⟩ := encIOB_fields _ a b
    exact congrArg₂ _ ha hb
  | bst d b | bld d b | sbrc d b | sbrs d b =>
    obtain ⟨-, hd, hb⟩ := encRB_fields _ d b
    exact congrArg₂ _ hd hb
  | brbs b k | brbc b k =>
    obtain ⟨-, hb, hk⟩ := encBR_fields _ b k
    exact congrArg₂ _ hb hk
  | rjmp k | rcall k => exact congrArg _ (encRJ_fields _ k).2
  | bset b | bclr b => exact congrArg _ (encS_fields _ b).2
  | jmp k | call k => exact congrArg _ (((encLong_fields _ k).2 _).trans (longField_eq k))
  | ijmp | icall | ret | reti | lpmR0 | nop | sleep | wdr | brk => rfl

/-- A word of a row is the first word of what the row builds from it. -/
theorem encodeFirst_build {i : Instr} {w : Word} (h : w &&& i.row.mask = i.row.pattern) (w2 : Word) :
    encodeFirst (i.row.build w w2) = w := by
  cases i with
  | add | adc | sub | sbc | and | or | eor | mul | cpse | cp | cpc | mov => exact encRR_of_fields h
  | subi | sbci | andi | ori | cpi | ldi => exact encRK_of_fields h
  | adiw | sbiw => exact encRW_of_fields h
  | com | neg | inc | dec | lsr | ror | asr | swap | ldX | ldXInc | ldXDec | ldYInc | ldYDec | ldZInc | ldZDec | lds
  | stX | stXInc | stXDec | stYInc | stYDec | stZInc | stZDec | sts | lpmZ | lpmZInc | push | pop =>
    exact encR1_of_fields h
  | muls => exact encMuls_of_fields h
  | mulsu | fmul | fmuls | fmulsu => exact encM3_of_fields h
  | movw => exact encMovw_of_fields h
  | lddY | lddZ | stdY | stdZ => exact encQ_of_fields h
  | inIo | outIo => exact encIO_of_fields h
  | sbi | cbi | sbic | sbis => exact encIOB_of_fields h
  | bst | bld | sbrc | sbrs => exact encRB_of_fields h
  | brbs | brbc => exact encBR_of_fields h
  | rjmp | rcall => exact encRJ_of_fields h
  | bset | bclr => exact encS_of_fields h
  | jmp | call => exact encLong_of_fields h w2
  | ijmp | icall | ret | reti | lpmR0 | nop | sleep | wdr | brk => exact h.symm.trans BitVec.and_allOnes

theorem encode_eq (i : Instr) :
    encode i = if i.isLong then [encodeFirst i, secondWord i] else [encodeFirst i] := by
  cases i <;> rfl

theorem k22_low (w w2 : Word) : (k22 w w2).extractLsb' 0 16 = w2 := by
  apply BitVec.eq_of_getLsbD_eq
  intro i hi
  simp only [k22, BitVec.getLsbD_extractLsb', BitVec.getLsbD_append]
  simp [hi]

theorem secondWord_build {i : Instr} (h : i.isLong = true) (w w2 : Word) : secondWord (i.row.build w w2) = w2 := by
  cases i with
  | lds | sts => rfl
  | jmp | call => exact k22_low w w2
  | _ => cases h

/-! ### The round trips -/

/-- Whether a word of row `r` is of row `s`, too, shows in `r`'s pattern: it is only if the rows are one. -/
theorem Row.beq_of_matches {r s : Row} (hr : r ∈ opcodeRows) (hs : s ∈ opcodeRows) {w : Word}
    (hw : w &&& r.mask = r.pattern) : (w &&& s.mask == s.pattern) = (r.pattern &&& s.mask == s.pattern) := by
  have hself : r.pattern &&& r.mask = r.pattern := by rw [← hw, BitVec.and_assoc, BitVec.and_self]
  have hiff : ∀ {x : Word}, x &&& r.mask = r.pattern → ((x &&& s.mask == s.pattern) = true ↔ r = s) := fun hx => by
    rw [beq_iff_eq]
    exact ⟨opcodeRows_unique hr hs hx, fun h => h ▸ hx⟩
  exact Bool.eq_iff_iff.mpr ((hiff hw).trans (hiff hself).symm)

/-- R151 by the rows of the four two-word instructions. -/
theorem isTwoWord_eq (w : Word) : isTwoWord w =
    (w &&& (Instr.lds 0 0).row.mask == (Instr.lds 0 0).row.pattern ||
      w &&& (Instr.sts 0 0).row.mask == (Instr.sts 0 0).row.pattern ||
      w &&& (Instr.jmp 0).row.mask == (Instr.jmp 0).row.pattern ||
      w &&& (Instr.call 0).row.mask == (Instr.call 0).row.pattern) := rfl

theorem isTwoWord_of_matches {r : Row} (hr : r ∈ opcodeRows) {w : Word} (hw : w &&& r.mask = r.pattern) :
    isTwoWord w = isTwoWord r.pattern := by
  simp only [isTwoWord_eq, Row.beq_of_matches hr (Instr.row_mem _) hw]

theorem decode_encodeFirst {i : Instr} (h : i.wellFormed = true) : decode (encodeFirst i) (secondWord i) = .ok i := by
  have hrow := findRow_eq_some_iff.mpr ⟨i.row_mem, encodeFirst_row i⟩
  rw [decode_of_findRow_some hrow, build_encodeFirst i h, if_pos h]


/-- A word of a row and any second word are the encoding of what the row builds from them. -/
theorem encode_build {r : Row} (hr : r ∈ opcodeRows) {w : Word} (hw : w &&& r.mask = r.pattern) (w2 : Word) :
    encode (r.build w w2) = if isTwoWord w then [w, w2] else [w] := by
  obtain ⟨hrow, hlong⟩ := opcodeRows_build r hr w w2
  have hlong' := hlong.trans (isTwoWord_of_matches hr hw).symm
  generalize hi : r.build w w2 = i at hrow hlong'
  subst hrow
  have hfirst : encodeFirst i = w := hi ▸ encodeFirst_build hw w2
  rw [encode_eq, hlong', hfirst]
  cases hw2 : isTwoWord w with
  | false => rfl
  | true =>
    have hsecond : secondWord i = w2 := hi ▸ secondWord_build (hlong'.trans hw2) w w2
    rw [hsecond]

theorem decodeBytes_encodeBytes {i : Instr} (h : i.wellFormed = true) (rest : List Byte) :
    decodeBytes (encodeBytes i ++ rest) = .ok (i, rest) := by
  have hdec := decode_encodeFirst h
  have hmem := i.row_mem
  have hmatch := encodeFirst_row i
  have henc := encode_build hmem hmatch (secondWord i)
  rw [build_encodeFirst i h] at henc
  rw [encodeBytes, henc]
  cases hlen : isTwoWord (encodeFirst i) with
  | false =>
    rw [decode_one_word hlen] at hdec
    simp only [Bool.false_eq_true, if_false, List.flatMap_cons, List.flatMap_nil, List.append_nil, List.cons_append,
      List.nil_append, decodeBytes, Machine.highByte_lowByte, hlen, hdec, Except.map]
  | true =>
    simp only [if_true, List.flatMap_cons, List.flatMap_nil, List.append_nil, List.cons_append, List.nil_append,
      decodeBytes, Machine.highByte_lowByte, hlen, hdec, Except.map]

/-- Settles O1: the row of the instruction reads its operands back from its words. -/
theorem decodeAfterEncode : Obligations.DecodeAfterEncode := fun _ rest h => decodeBytes_encodeBytes h rest

/-- Settles O2: the row that decoded the word built the instruction from its fields. -/
theorem encodeAfterDecode : Obligations.EncodeAfterDecode := by
  intro w w2 i h
  refine ⟨decode_wellFormed h, ?_⟩
  cases hrow : findRow w with
  | none => rw [decode_of_findRow_none hrow] at h; cases h
  | some r =>
    obtain ⟨hmem, hw⟩ := findRow_some hrow
    rw [decode_of_findRow_some hrow] at h
    split at h
    · cases h
      exact encode_build hmem hw w2
    · cases h

end Sys2Proof
end

section
/-! PROOFS. The illegal words (R171 30_encoding.md): classes 1 to 8 are masks and patterns as the rows are, every word
matches a row or a class, and none matches both; classes 9 and 10 encode operands their constraint excludes. -/

namespace Sys2Proof

open Machine Claim

/-- Classes 1 to 8 of R171 (30_encoding.md): a mask, a pattern and the legal words among those that match it. -/
def illegalClasses : List (Word × Word × List Word) :=
  (0xFF00#16, 0x0000#16, [0x0000#16]) ::
  ([0b0011#4, 0b0110#4, 0b0111#4, 0b1000#4, 0b1011#4].map fun x => (0xFE0F, 0b1001000#7 ++ 0#5 ++ x, [])) ++
  ([0b0011#4, 0b0100#4, 0b0101#4, 0b0110#4, 0b0111#4, 0b1000#4, 0b1011#4].map fun x =>
    (0xFE0F, 0b1001001#7 ++ 0#5 ++ x, [])) ++
  [(0xFE0F, 0b1001010#7 ++ 0#5 ++ 0b0100#4, []), (0xFE0F, 0b1001010#7 ++ 0#5 ++ 0b1001#4, [0x9409#16, 0x9509#16]),
   (0xFE0F, 0b1001010#7 ++ 0#5 ++ 0b1011#4, []),
   (0xFF0F, 0b10010101#8 ++ 0#4 ++ 0b1000#4, [0x9508#16, 0x9518#16, 0x9588#16, 0x9598#16, 0x95A8#16, 0x95C8#16]),
   (0xF808, 0b11111#5 ++ 0#7 ++ 0b1000#4, [])]


/-- Two fields with a gap of zeros between them are read back. -/
theorem append_zero_inj {a k b : Nat} {x x' : BitVec a} {y y' : BitVec b} (h : x ++ 0#k ++ y = x' ++ 0#k ++ y') :
    x = x' ∧ y = y' := by
  constructor
  · apply BitVec.eq_of_getLsbD_eq
    intro i hi
    have hbit := congrArg (·.getLsbD (b + (k + i))) h
    simpa [BitVec.getLsbD_append, -BitVec.getLsbD_eq_getElem] using hbit
  · apply BitVec.eq_of_getLsbD_eq
    intro i hi
    have hbit := congrArg (·.getLsbD i) h
    simpa [BitVec.getLsbD_append, hi, -BitVec.getLsbD_eq_getElem] using hbit

/-- The words under the mask of the R1 format, by their two fields. -/
theorem and_FE0F_beq (w : Word) (hi : BitVec 7) (lo : BitVec 4) :
    (w &&& 0xFE0F == hi ++ 0#5 ++ lo) = (w.extractLsb' 9 7 == hi && w.extractLsb' 0 4 == lo) := by
  have hmask : w &&& 0xFE0F = w.extractLsb' 9 7 ++ 0#5 ++ w.extractLsb' 0 4 := by
    apply BitVec.eq_of_getLsbD_eq
    intro i hi
    simp only [BitVec.getLsbD_append, BitVec.getLsbD_extractLsb', BitVec.getLsbD_and]
    interval_cases i <;> simp
  rw [hmask, Bool.eq_iff_iff]
  simp only [beq_iff_eq, Bool.and_eq_true]
  exact ⟨append_zero_inj, fun ⟨h, h'⟩ => by rw [h, h']⟩

theorem and_FF0F_beq (w : Word) (hi : BitVec 8) (lo : BitVec 4) :
    (w &&& 0xFF0F == hi ++ 0#4 ++ lo) = (w.extractLsb' 8 8 == hi && w.extractLsb' 0 4 == lo) := by
  have hmask : w &&& 0xFF0F = w.extractLsb' 8 8 ++ 0#4 ++ w.extractLsb' 0 4 := by
    apply BitVec.eq_of_getLsbD_eq
    intro i hi
    simp only [BitVec.getLsbD_append, BitVec.getLsbD_extractLsb', BitVec.getLsbD_and]
    interval_cases i <;> simp
  rw [hmask, Bool.eq_iff_iff]
  simp only [beq_iff_eq, Bool.and_eq_true]
  exact ⟨append_zero_inj, fun ⟨h, h'⟩ => by rw [h, h']⟩

theorem and_F808_beq (w : Word) :
    (w &&& 0xF808 == 0b11111#5 ++ 0#7 ++ 0b1000#4) = (w.extractLsb' 11 5 == 0b11111#5 && w.getLsbD 3) := by
  have hmask : w &&& 0xF808 = w.extractLsb' 11 5 ++ 0#7 ++ (BitVec.ofBool (w.getLsbD 3) ++ 0b000#3) := by
    apply BitVec.eq_of_getLsbD_eq
    intro i hi
    simp only [BitVec.getLsbD_append, BitVec.getLsbD_extractLsb', BitVec.getLsbD_and]
    interval_cases i <;> simp
  rw [hmask, Bool.eq_iff_iff]
  simp only [beq_iff_eq, Bool.and_eq_true]
  constructor
  · intro h
    obtain ⟨h5, h4⟩ := append_zero_inj h
    refine ⟨h5, ?_⟩
    revert h4
    cases w.getLsbD 3 <;> decide
  · rintro ⟨h5, h3⟩
    rw [h5, h3]; rfl

theorem and_FF00_beq (w : Word) : (w &&& 0xFF00#16 == 0x0000#16) = decide (w.toNat ≤ 0xFF) := by
  have hmask : w &&& 0xFF00#16 = (w >>> 8) <<< 8 := by
    apply BitVec.eq_of_getLsbD_eq
    intro i hi
    simp only [BitVec.getLsbD_and, BitVec.getLsbD_shiftLeft, BitVec.getLsbD_ushiftRight]
    interval_cases i <;> simp
  rw [hmask, Bool.eq_iff_iff, beq_iff_eq, decide_eq_true_eq]
  bv_omega

/-- The claim's list of illegal words is the classes as masks and patterns. -/
theorem illegalWord_eq (w : Word) : illegalWord w =
    illegalClasses.any fun c => w &&& c.1 == c.2.1 && !c.2.2.contains w := by
  have hzero : (decide (1 ≤ w.toNat) && decide (w.toNat ≤ 0xFF)) =
      (decide (w.toNat ≤ 0xFF) && !([0x0000#16].contains w)) := by
    rw [Bool.eq_iff_iff]
    simp only [Bool.and_eq_true, decide_eq_true_eq, Bool.not_eq_true', List.contains_eq_mem, decide_eq_false_iff_not,
      List.mem_singleton]
    bv_omega
  simp only [illegalWord, illegalClasses, hzero, List.any_cons, List.any_nil, List.map_cons, List.map_nil,
    List.cons_append, List.nil_append, and_FE0F_beq, and_FF0F_beq, and_F808_beq, and_FF00_beq, List.contains_nil,
    Bool.not_false, Bool.and_true, Bool.or_false]
  simp only [List.contains_cons, List.contains_nil, Bool.and_or_distrib_left, Bool.or_assoc, Bool.or_false]

/-! ### Every word matches a row or a class, and none matches both -/

/-- Every word that agrees with the choices made so far matches one of `ps` on the bits still to choose. -/
def covered (bits : List Nat) (ps : List (Word × Word)) : Bool :=
  match bits with
  | [] => !ps.isEmpty
  | b :: bits =>
    ps.any (fun p => (b :: bits).all fun c => !p.1.getLsbD c) ||
    (covered bits (ps.filter fun p => !p.1.getLsbD b || p.2.getLsbD b) &&
     covered bits (ps.filter fun p => !p.1.getLsbD b || !p.2.getLsbD b))

/-- `w` has the bits of the pattern `p` that its mask fixes, among `bits`. -/
def agrees (w : Word) (bits : List Nat) (p : Word × Word) : Prop :=
  ∀ b ∈ bits, p.1.getLsbD b = true → w.getLsbD b = p.2.getLsbD b

theorem exists_agrees_of_covered (w : Word) {bits : List Nat} {ps : List (Word × Word)} (h : covered bits ps = true) :
    ∃ p ∈ ps, agrees w bits p := by
  induction bits generalizing ps with
  | nil =>
    obtain ⟨p, hp⟩ := List.exists_mem_of_ne_nil ps (by simpa [covered] using h)
    exact ⟨p, hp, List.forall_mem_nil _⟩
  | cons b bits ih =>
    rw [covered, Bool.or_eq_true, Bool.and_eq_true] at h
    rcases h with hfree | ⟨hone, hzero⟩
    · obtain ⟨p, hp, hall⟩ := List.any_eq_true.mp hfree
      refine ⟨p, hp, fun c hc hm => ?_⟩
      have hnot := List.all_eq_true.mp hall c hc
      rw [hm] at hnot
      cases hnot
    · cases hw : w.getLsbD b with
      | true =>
        obtain ⟨p, hp, hag⟩ := ih hone
        obtain ⟨hmem, hb⟩ := List.mem_filter.mp hp
        refine ⟨p, hmem, List.forall_mem_cons.mpr ⟨fun hm => ?_, hag⟩⟩
        rw [hm] at hb
        rw [hw]
        exact hb.symm
      | false =>
        obtain ⟨p, hp, hag⟩ := ih hzero
        obtain ⟨hmem, hb⟩ := List.mem_filter.mp hp
        refine ⟨p, hmem, List.forall_mem_cons.mpr ⟨fun hm => ?_, hag⟩⟩
        rw [hm] at hb
        rw [hw]
        simpa using hb.symm

theorem and_eq_of_agrees {w : Word} {p : Word × Word} (hp : p.2 &&& p.1 = p.2) {bits : List Nat}
    (hbits : ∀ i < 16, i ∈ bits) (h : agrees w bits p) : w &&& p.1 = p.2 := by
  rw [← hp]
  apply BitVec.eq_of_getLsbD_eq
  intro i hi
  rw [BitVec.getLsbD_and, BitVec.getLsbD_and]
  cases hm : p.1.getLsbD i with
  | false => rw [Bool.and_false, Bool.and_false]
  | true => rw [h i (hbits i hi) hm]

/-- The patterns a word with top nibble `n` can match. -/
def inNibble (n : Nat) (ps : List (Word × Word)) : List (Word × Word) :=
  ps.filter fun p => [15, 14, 13, 12].all fun b => !p.1.getLsbD b || p.2.getLsbD b == n.testBit (b - 12)

def rowPatterns : List (Word × Word) := opcodeRows.map fun r => (r.mask, r.pattern)
def classPatterns : List (Word × Word) := illegalClasses.map fun c => (c.1, c.2.1)

theorem nibbles_covered : ∀ n < 16,
    covered [11, 10, 9, 8, 3, 2, 1, 0, 7, 6, 5, 4] (inNibble n (classPatterns ++ rowPatterns)) = true := by decide

theorem rowPattern_and_mask {r : Row} (hr : r ∈ opcodeRows) : r.pattern &&& r.mask = r.pattern := by
  have hmatch := encodeFirst_row (r.build 0 0)
  rw [(opcodeRows_build r hr 0 0).1] at hmatch
  rw [← hmatch, BitVec.and_assoc, BitVec.and_self]

theorem classPattern_and_mask : ∀ p ∈ classPatterns, p.2 &&& p.1 = p.2 := by
  have hall : (classPatterns.all fun p => p.2 &&& p.1 == p.2) = true := rfl
  exact fun p hp => beq_iff_eq.mp (List.all_eq_true.mp hall p hp)

theorem exists_pattern (w : Word) : ∃ p ∈ classPatterns ++ rowPatterns, w &&& p.1 = p.2 := by
  have hn : w.toNat / 2 ^ 12 < 16 := by omega
  obtain ⟨p, hp, hlow⟩ := exists_agrees_of_covered w (nibbles_covered _ hn)
  obtain ⟨hmem, hhigh⟩ := List.mem_filter.mp hp
  have hwithin : p.2 &&& p.1 = p.2 := by
    rcases List.mem_append.mp hmem with hclass | hrow
    · exact classPattern_and_mask p hclass
    · obtain ⟨r, hr, rfl⟩ := List.mem_map.mp hrow
      exact rowPattern_and_mask hr
  refine ⟨p, hmem, and_eq_of_agrees hwithin (bits := [15, 14, 13, 12] ++ [11, 10, 9, 8, 3, 2, 1, 0, 7, 6, 5, 4])
    (by decide) (List.forall_mem_append.mpr ⟨fun b hb hm => ?_, hlow⟩)⟩
  have hbit := List.all_eq_true.mp hhigh b hb
  have hb12 : ∀ b ∈ [15, 14, 13, 12], b - 12 + 12 = b := by decide
  rw [hm, Bool.not_true, Bool.false_or, beq_iff_eq, Nat.testBit_div_two_pow, hb12 b hb] at hbit
  exact hbit.symm

/-- The words that are a whole row: IJMP, ICALL, RET, RETI, LPM, NOP, SLEEP, WDR and BREAK. -/
def exactWords : List Word := [0x9409, 0x9509, 0x9508, 0x9518, 0x95C8, 0x0000, 0x9588, 0x95A8, 0x9598]

theorem exactWords_eq : (opcodeRows.filter fun r => r.mask == 0xFFFF).map (fun r => r.pattern) = exactWords := rfl

theorem classes_differ_from_rows :
    (classPatterns ++ (opcodeRows.filter fun r => r.mask != 0xFFFF).map fun r => (r.mask, r.pattern)).Pairwise
      fun a b => a.2 &&& b.1 ≠ b.2 &&& a.1 := by decide

/-- The legal words of a class are the rows that are one word. -/
theorem illegalClasses_legal : (illegalClasses.all fun c =>
    (exactWords.all fun e => e &&& c.1 != c.2.1 || c.2.2.contains e) && c.2.2.all exactWords.contains) = true := rfl

theorem mem_legal {c : Word × Word × List Word} (hc : c ∈ illegalClasses) {e : Word} (he : e ∈ exactWords)
    (hw : e &&& c.1 = c.2.1) : e ∈ c.2.2 := by
  obtain ⟨hall, -⟩ := Bool.and_eq_true_iff.mp (List.all_eq_true.mp illegalClasses_legal c hc)
  simpa [hw] using List.all_eq_true.mp hall e he

theorem mem_exactWords {c : Word × Word × List Word} (hc : c ∈ illegalClasses) {e : Word} (he : e ∈ c.2.2) :
    e ∈ exactWords := by
  obtain ⟨-, hall⟩ := Bool.and_eq_true_iff.mp (List.all_eq_true.mp illegalClasses_legal c hc)
  simpa using List.all_eq_true.mp hall e he

/-- A word of a class that is not one of its legal words is of no row. -/
theorem no_row_of_illegal {w : Word} {c : Word × Word × List Word} (hc : c ∈ illegalClasses) (hw : w &&& c.1 = c.2.1)
    (hl : w ∉ c.2.2) {r : Row} (hr : r ∈ opcodeRows) : w &&& r.mask ≠ r.pattern := by
  intro hmatch
  by_cases hfull : r.mask = 0xFFFF
  · have hwr : w = r.pattern := by
      rw [← hmatch, hfull]
      exact BitVec.and_allOnes.symm
    have hexact : r.pattern ∈ exactWords :=
      exactWords_eq ▸ List.mem_map.mpr ⟨r, List.mem_filter.mpr ⟨hr, beq_iff_eq.mpr hfull⟩, rfl⟩
    exact hl (mem_legal hc (hwr ▸ hexact) hw)
  · obtain ⟨-, -, hdiff⟩ := List.pairwise_append.mp classes_differ_from_rows
    have hopen : r ∈ opcodeRows.filter fun r => r.mask != 0xFFFF := List.mem_filter.mpr ⟨hr, bne_iff_ne.mpr hfull⟩
    exact hdiff _ (List.mem_map_of_mem hc) _ (List.mem_map_of_mem (f := fun r : Row => (r.mask, r.pattern)) hopen)
      (Row.patterns_agree (a := ⟨c.1, c.2.1, r.build⟩) hw hmatch)

theorem findRow_eq_none_iff_illegal (w : Word) : findRow w = none ↔ illegalWord w = true := by
  rw [illegalWord_eq, List.any_eq_true, findRow_eq_none_iff]
  simp only [Bool.and_eq_true, beq_iff_eq, Bool.not_eq_true', List.contains_eq_mem, decide_eq_false_iff_not]
  constructor
  · intro hno
    obtain ⟨p, hp, hw⟩ := exists_pattern w
    rcases List.mem_append.mp hp with hclass | hrow
    · obtain ⟨c, hc, rfl⟩ := List.mem_map.mp hclass
      refine ⟨c, hc, hw, fun he => ?_⟩
      have hexact := mem_exactWords hc he
      rw [← exactWords_eq] at hexact
      obtain ⟨r, hr, rfl⟩ := List.mem_map.mp hexact
      obtain ⟨hr, -⟩ := List.mem_filter.mp hr
      exact hno r hr (rowPattern_and_mask hr)
    · obtain ⟨r, hr, rfl⟩ := List.mem_map.mp hrow
      exact absurd hw (hno r hr)
  · rintro ⟨c, hc, hw, hl⟩ r hr
    exact no_row_of_illegal hc hw hl hr

theorem decode_noRow_iff (w w2 : Word) : decode w w2 = .error (.noRow w) ↔ findRow w = none := by
  refine ⟨fun h => ?_, fun h => decode_of_findRow_none h w2⟩
  cases hrow : findRow w with
  | none => rfl
  | some r =>
    rw [decode_of_findRow_some hrow] at h
    split at h <;> cases h

/-- The encoding of operands that break their constraint is a decode error. -/
theorem decode_ill_formed {i : Instr} {w2 : Word} (h : (i.row.build (encodeFirst i) w2).wellFormed = false) :
    decode (encodeFirst i) w2 = .error (.operandConstraint (encodeFirst i)) := by
  rw [decode_of_findRow_some (findRow_eq_some_iff.mpr ⟨i.row_mem, encodeFirst_row i⟩), h]
  rfl

/-! ### Classes 9 and 10 -/

theorem two_words_ge {hi : BitVec 6} (h : hi ≠ 0) (w2 : Word) : ¬ (hi ++ w2).toNat < 0x10000 := by
  have hpos : hi.toNat ≠ 0 := fun h0 => h (BitVec.eq_of_toNat_eq h0)
  rw [BitVec.toNat_append, Nat.shiftLeft_eq, Nat.or_comm]
  have hle : hi.toNat * 2 ^ 16 ≤ w2.toNat ||| hi.toNat * 2 ^ 16 := Nat.right_le_or
  omega

theorem longTarget_wellFormed {o : BitVec 1} {hi : BitVec 6} (h : hi ≠ 0) (w2 : Word) :
    decide ((k22 (encLong o (hi ++ 0#16)) w2).toNat < 0x10000) = false := by
  have hhi : (hi ++ 0#16).extractLsb' 16 6 = hi := by
    apply BitVec.eq_of_getLsbD_eq
    intro i hi
    simp only [BitVec.getLsbD_extractLsb', BitVec.getLsbD_append]
    simp [hi]
  rw [(encLong_fields o _).2, hhi]
  exact decide_eq_false (two_words_ge h w2)

theorem encLong_hi (o : BitVec 1) (hi : BitVec 6) : encLong o (hi ++ 0#16) =
    0b1001010#7 ++ hi.extractLsb' 1 5 ++ 0b11#2 ++ o ++ hi.extractLsb' 0 1 := by
  apply BitVec.eq_of_getLsbD_eq
  intro i hi
  simp only [encLong, BitVec.getLsbD_extractLsb', BitVec.getLsbD_append]
  interval_cases i <;> rfl

theorem decode_longTarget (hi : BitVec 6) (o : BitVec 1) (h : hi ≠ 0) (w2 : Word) :
    decode (encLong o (hi ++ 0#16)) w2 = .error (.operandConstraint (encLong o (hi ++ 0#16))) := by
  have ho : o = 0 ∨ o = 1 := by revert o; decide
  rcases ho with rfl | rfl
  · exact decode_ill_formed (i := .jmp (hi ++ 0#16)) (longTarget_wellFormed h w2)
  · exact decode_ill_formed (i := .call (hi ++ 0#16)) (longTarget_wellFormed h w2)

/-- Settles O4: no row matches exactly the words of the classes, and the other words named are encodings, by a row whose
constraint they break. -/
theorem illegalWordsAreRejected : Obligations.IllegalWordsAreRejected := by
  refine ⟨fun w w2 => (decode_noRow_iff w w2).trans (findRow_eq_none_iff_illegal w), fun w2 => ?pointers,
    fun w2 => ?lpm, fun w2 hi o h => ?targets⟩
  case pointers =>
    simp only [List.forall_mem_cons, List.not_mem_nil, false_imp_iff, implies_true, and_true]
    exact ⟨⟨⟨⟨rfl, rfl⟩, rfl, rfl⟩, ⟨⟨rfl, rfl⟩, rfl, rfl⟩, ⟨rfl, rfl⟩, rfl, rfl⟩,
      ⟨⟨rfl, rfl⟩, rfl, rfl⟩, ⟨⟨rfl, rfl⟩, rfl, rfl⟩, ⟨rfl, rfl⟩, rfl, rfl⟩
  case lpm =>
    simp only [List.forall_mem_cons]
    exact ⟨rfl, rfl, List.forall_mem_nil _⟩
  case targets =>
    rw [← encLong_hi]
    exact decode_longTarget hi o h w2

/-- Settles O5: by evaluation. -/
theorem knownWordsDecode : Obligations.KnownWordsDecode :=
  ⟨rfl, rfl, rfl, rfl, rfl, rfl, rfl, rfl, rfl, rfl, rfl⟩

end Sys2Proof
end

section
/-! PROOFS. What a step keeps: a property kept by the operations that instructions, interrupt entries and cycles are
made of is kept by every step. -/
namespace Sys2Proof.Machine
open Claim

theorem dataValid_iff (a : Word) : dataValid a = true ↔ a.toNat ≤ 0x08FF := decide_eq_true_iff

theorem dataValid_ioAddrLow (a : BitVec 5) : dataValid (ioAddrLow a) = true := by
  rw [dataValid_iff, ioAddrLow]
  bv_omega

/-- `P` is kept by every operation the instructions share (Ops.lean); the hidden flags irqInhibit and sleeping apart. -/
structure KeptByOps (P : State → Prop) : Prop where
  setReg : ∀ {s : State} (d : BitVec 5) (v : Byte), P s → P (s.setReg d v)
  setSreg : ∀ {s : State} (v : Byte), P s → P (s.setSreg v)
  setSp : ∀ {s : State} (v : Word), P s → P (s.setSp v)
  goto : ∀ {s : State} (target : Word) (cost : Nat), P s → P (s.goto target cost)
  raise : ∀ {s : State} (f : Fault), P s → P (s.raise f)
  readIo : ∀ {s : State} (r : IoReg), P s → P (s.readIo r).2
  writeIo : ∀ {s : State} (r : IoReg) (v : Byte), P s → P (s.writeIo r v)
  setRam : ∀ {s : State} {a : Word} (v : Byte), dataValid a = true → route a = .cell → P s → P (s.setRam a v)

namespace KeptByOps

variable {P : State → Prop} {s : State}

theorem fall (hP : KeptByOps P) (words : Word) (cost : Nat) (hs : P s) : P (s.fall words cost) := hP.goto _ _ hs

theorem setPair (hP : KeptByOps P) (d : BitVec 5) (v : Word) (hs : P s) : P (s.setPair d v) :=
  hP.setReg _ _ (hP.setReg _ _ hs)

theorem setRegFall (hP : KeptByOps P) (d : BitVec 5) (v : Byte) (words : Word) (cost : Nat) (hs : P s) :
    P ((s.setReg d v).fall words cost) := hP.fall _ _ (hP.setReg _ _ hs)

theorem setSregFall (hP : KeptByOps P) (v : Byte) (words : Word) (cost : Nat) (hs : P s) :
    P ((s.setSreg v).fall words cost) := hP.fall _ _ (hP.setSreg _ hs)

theorem aluResult (hP : KeptByOps P) (d : BitVec 5) (r sr : Byte) (hs : P s) : P (s.aluResult d r sr) :=
  hP.setSregFall _ _ _ (hP.setReg _ _ hs)

theorem pairResult (hP : KeptByOps P) (d : BitVec 5) (r : Word) (sr : Byte) (hs : P s) : P (s.pairResult d r sr) :=
  hP.setSregFall _ _ _ (hP.setPair _ _ hs)

/-! ### The data space -/

theorem readAt (hP : KeptByOps P) (a : Word) (hs : P s) : P (s.readAt a).2 := by
  unfold State.readAt
  split
  · exact hs
  · exact hP.readIo _ hs
  · exact hs

theorem writeAt (hP : KeptByOps P) {a : Word} (ha : dataValid a = true) (v : Byte) (hs : P s) : P (s.writeAt a v) := by
  unfold State.writeAt
  split
  · exact hP.setReg _ _ hs
  · exact hP.writeIo _ _ hs
  next hcell => exact hP.setRam _ ha hcell hs

theorem memRead (hP : KeptByOps P) (a : Word) {k : Byte → State → State} (hk : ∀ v t, P t → P (k v t)) (hs : P s) :
    P (s.memRead a k) := by
  unfold State.memRead
  split
  · exact hk _ _ (hP.readAt _ hs)
  · exact hP.raise _ hs

theorem memWrite (hP : KeptByOps P) (a : Word) (v : Byte) {k : State → State} (hk : ∀ t, P t → P (k t)) (hs : P s) :
    P (s.memWrite a v k) := by
  unfold State.memWrite
  split
  next ha => exact hk _ (hP.writeAt ha _ hs)
  · exact hP.raise _ hs

theorem loadByte (hP : KeptByOps P) (d : BitVec 5) (a : Word) (words : Word) (cost : Nat) (hs : P s) :
    P (s.loadByte d a words cost) := hP.memRead _ (fun _ _ ht => hP.setRegFall _ _ _ _ ht) hs

theorem loadUpdate (hP : KeptByOps P) (d : BitVec 5) (a : Word) (p : Ptr) (p' : Word) (cost : Nat) (hs : P s) :
    P (s.loadUpdate d a p p' cost) :=
  hP.memRead _ (fun _ _ ht => hP.fall _ _ (hP.setPair _ _ (hP.setReg _ _ ht))) hs

theorem storeByte (hP : KeptByOps P) (a : Word) (v : Byte) (words : Word) (cost : Nat) (hs : P s) :
    P (s.storeByte a v words cost) := hP.memWrite _ _ (fun _ ht => hP.fall _ _ ht) hs

theorem storeUpdate (hP : KeptByOps P) (a : Word) (v : Byte) (p : Ptr) (p' : Word) (cost : Nat) (hs : P s) :
    P (s.storeUpdate a v p p' cost) := hP.memWrite _ _ (fun _ ht => hP.fall _ _ (hP.setPair _ _ ht)) hs

theorem progByte (hP : KeptByOps P) (b : Word) {k : Byte → State → State} (hk : ∀ v t, P t → P (k v t)) (hs : P s) :
    P (s.progByte b k) := by
  unfold State.progByte
  split
  · exact hk _ _ hs
  · exact hP.raise _ hs

theorem ioWriteBit (hP : KeptByOps P) {a : Word} (ha : dataValid a = true) (b : BitVec 3) (v : Bool) (hs : P s) :
    P (s.ioWriteBit a b v) := by
  have acts (r : IoReg) : P (if v then s.writeIo r (setBit 0 b.toNat true) else s) := by
    split
    · exact hP.writeIo _ _ hs
    · exact hs
  unfold State.ioWriteBit
  split
  · exact acts _
  · exact acts _
  · exact acts _
  · exact hP.writeAt ha _ (hP.readAt _ hs)

theorem ioWriteBitFall (hP : KeptByOps P) (a : BitVec 5) (b : BitVec 3) (v : Bool) (hs : P s) :
    P ((s.ioWriteBit (ioAddrLow a) b v).fall 1 2) :=
  hP.fall _ _ (hP.ioWriteBit (dataValid_ioAddrLow a) _ _ hs)

/-! ### The stack, skips and branches -/

theorem push8 (hP : KeptByOps P) (v : Byte) {k : State → State} (hk : ∀ t, P t → P (k t)) (hs : P s) :
    P (s.push8 v k) := hP.memWrite _ _ (fun _ ht => hk _ (hP.setSp _ ht)) hs

theorem pop8 (hP : KeptByOps P) {k : Byte → State → State} (hk : ∀ v t, P t → P (k v t)) (hs : P s) :
    P (s.pop8 k) := hP.memRead _ (fun _ _ ht => hk _ _ (hP.setSp _ ht)) hs

theorem pushReturn (hP : KeptByOps P) (ret : Word) {k : State → State} (hk : ∀ t, P t → P (k t)) (hs : P s) :
    P (s.pushReturn ret k) := hP.push8 _ (fun _ ht => hP.push8 _ hk ht) hs

theorem popReturn (hP : KeptByOps P) {k : Word → State → State} (hk : ∀ v t, P t → P (k v t)) (hs : P s) :
    P (s.popReturn k) := hP.pop8 (fun _ _ ht => hP.pop8 (fun _ _ hu => hk _ _ hu) ht) hs

theorem skipIf (hP : KeptByOps P) (c : Bool) (hs : P s) : P (s.skipIf c) := by
  obtain ⟨-, h⟩ | ⟨-, -, h⟩ | ⟨w, -, -, h⟩ := State.skipIf_cases s c
  · rw [h]; exact hP.fall _ _ hs
  · rw [h]; exact hP.raise _ hs
  · rw [h]; exact hP.goto _ _ hs

theorem branchIf (hP : KeptByOps P) (c : Bool) (k : BitVec 7) (hs : P s) : P (s.branchIf c k) := by
  unfold State.branchIf
  split
  · exact hP.goto _ _ hs
  · exact hP.fall _ _ hs

/-! ### Every instruction -/

/-- An instruction keeps what its operations keep: BSET and RETI also write irqInhibit, SLEEP also sleeping. -/
theorem exec_keeps (hP : KeptByOps P) (i : Instr)
    (hinhibit : (∃ b, i = .bset b) ∨ i = .reti → ∀ (s : State) (b : Bool), P s → P (s.setIrqInhibit b))
    (hsleep : i = .sleep → ∀ (s : State) (b : Bool), P s → P (s.setSleeping b)) (hs : P s) :
    ∃ t, exec i s = .next t ∧ P t := by
  cases i with
  | add | adc | sub | subi | sbc | sbci | and | andi | or | ori | eor | com | neg | inc | dec | lsr | ror | asr =>
    exact ⟨_, rfl, hP.aluResult _ _ _ hs⟩
  | adiw | sbiw | mul | muls | mulsu | fmul | fmuls | fmulsu => exact ⟨_, rfl, hP.pairResult _ _ _ hs⟩
  | cp | cpc | cpi | bclr | bst => exact ⟨_, rfl, hP.setSregFall _ _ _ hs⟩
  | mov | ldi | swap | bld => exact ⟨_, rfl, hP.setRegFall _ _ _ _ hs⟩
  | movw => exact ⟨_, rfl, hP.fall _ _ (hP.setPair _ _ hs)⟩
  | rjmp | ijmp | jmp | nop | wdr => exact ⟨_, rfl, hP.goto _ _ hs⟩
  | brbs | brbc => exact ⟨_, rfl, hP.branchIf _ _ hs⟩
  | cpse | sbrc | sbrs => exact ⟨_, rfl, hP.skipIf _ hs⟩
  | sbic | sbis => exact ⟨_, rfl, hP.memRead _ (fun _ _ ht => hP.skipIf _ ht) hs⟩
  | rcall | icall | call => exact ⟨_, rfl, hP.pushReturn _ (fun _ ht => hP.goto _ _ ht) hs⟩
  | ret => exact ⟨_, rfl, hP.popReturn (fun _ _ ht => hP.goto _ _ ht) hs⟩
  | reti =>
    exact ⟨_, rfl, hP.popReturn (fun _ _ ht => hP.goto _ _ (hinhibit (.inr rfl) _ _ (hP.setSreg _ ht))) hs⟩
  | ldX | lddY | lddZ | lds | inIo => exact ⟨_, rfl, hP.loadByte _ _ _ _ hs⟩
  | ldXInc | ldXDec | ldYInc | ldYDec | ldZInc | ldZDec => exact ⟨_, rfl, hP.loadUpdate _ _ _ _ _ hs⟩
  | stX | stdY | stdZ | sts | outIo => exact ⟨_, rfl, hP.storeByte _ _ _ _ hs⟩
  | stXInc | stXDec | stYInc | stYDec | stZInc | stZDec => exact ⟨_, rfl, hP.storeUpdate _ _ _ _ _ hs⟩
  | lpmR0 | lpmZ => exact ⟨_, rfl, hP.progByte _ (fun _ _ ht => hP.setRegFall _ _ _ _ ht) hs⟩
  | lpmZInc => exact ⟨_, rfl, hP.progByte _ (fun _ _ ht => hP.fall _ _ (hP.setPair _ _ (hP.setReg _ _ ht))) hs⟩
  | push => exact ⟨_, rfl, hP.push8 _ (fun _ ht => hP.fall _ _ ht) hs⟩
  | pop => exact ⟨_, rfl, hP.pop8 (fun _ _ ht => hP.setRegFall _ _ _ _ ht) hs⟩
  | sbi | cbi => exact ⟨_, rfl, hP.ioWriteBitFall _ _ _ hs⟩
  | bset b => exact ⟨_, rfl, hP.fall _ _ (hinhibit (.inl ⟨b, rfl⟩) _ _ (hP.setSreg _ hs))⟩
  | sleep => exact ⟨_, rfl, hP.fall _ _ (hsleep rfl _ _ hs)⟩
  | brk => exact ⟨_, rfl, hP.raise _ hs⟩

end KeptByOps

/-- What a cycle keeps, peripheral time keeps. -/
theorem State.advance_keeps {P : State → Prop} (hcycle : ∀ {s : State}, P s → P s.advanceCycle) (k : Nat) {s : State}
    (hs : P s) : P (s.advance k) := by
  induction k generalizing s with
  | zero => exact hs
  | succ k ih =>
    unfold State.advance
    split
    · exact hcycle hs
    · exact ih (hcycle hs)

/-- `P` is kept by everything a step is made of. -/
structure KeptByStepOps (P : State → Prop) : Prop extends KeptByOps P where
  setIrqInhibit : ∀ (s : State) (b : Bool), P s → P (s.setIrqInhibit b)
  setSleeping : ∀ (s : State) (b : Bool), P s → P (s.setSleeping b)
  clearIrqFlag : ∀ {s : State} (v : IrqSource), P s → P (s.clearIrqFlag v)
  advanceCycle : ∀ {s : State}, P s → P s.advanceCycle

namespace KeptByStepOps

variable {P : State → Prop} {s t : State}

theorem settle (hP : KeptByStepOps P) (ht : P t) : P (s.settle t) := by
  unfold State.settle
  split
  · exact ht
  · exact State.advance_keeps (P := P) hP.advanceCycle _ ht

theorem interruptEntry (hP : KeptByStepOps P) (v : IrqSource) (cost : Nat) (hs : P s) : P (s.interruptEntry v cost) :=
  hP.pushReturn _
    (fun _ ht => hP.goto _ _ (hP.setSleeping _ _ (hP.clearIrqFlag _ (hP.setSreg _ ht)))) hs

theorem sleepStep (hP : KeptByStepOps P) (hs : P s) : P s.sleepStep := by
  have hcharge : P (s.charge 1) := hP.goto s.pc 1 hs
  unfold State.sleepStep
  split
  · exact hP.settle hcharge
  · exact hcharge

theorem step_keeps (hP : KeptByStepOps P) (h : step s = .next t) (hs : P s) : P t := by
  obtain ⟨-, rfl⟩ | ⟨-, -, v, -, rfl⟩ | ⟨-, -, -, rfl⟩ | ⟨-, -, v, -, rfl⟩ | ⟨-, -, -, f, -, rfl⟩ |
    ⟨-, -, -, i, u, -, hu, rfl⟩ := step_cases h
  · exact hs
  · exact hP.settle (hP.interruptEntry _ _ hs)
  · exact hP.sleepStep hs
  · exact hP.settle (hP.interruptEntry _ _ hs)
  · exact hP.raise _ (hP.setIrqInhibit _ _ hs)
  · obtain ⟨u', hu', hPu⟩ := hP.exec_keeps i (fun _ => hP.setIrqInhibit) (fun _ => hP.setSleeping)
      (hP.setIrqInhibit s false hs)
    rw [hu] at hu'
    cases hu'
    exact hP.settle hPu

end KeptByStepOps
end Sys2Proof.Machine
end

section
/-! PROOFS. The invariants of a step: canonical memories, and program memory and injected levels never written. -/
namespace Sys2Proof.Machine
open Claim

/-! ### O15: canonical memories -/

theorem memory_all_write {p : Host.Cell → Bool} {m : Memory} (h : m.all p = true) {a : Nat} {v : Byte}
    (ha : p (a, v) = true) : (Memory.write m a v).all p = true := by
  induction m with
  | nil => simp only [Memory.write]; split <;> simp [ha]
  | cons c m ih =>
    obtain ⟨k, u⟩ := c
    rw [List.all_cons, Bool.and_eq_true] at h
    obtain ⟨hc, hm⟩ := h
    simp only [Memory.write]
    split_ifs <;> simp [ha, hc, hm, ih]

theorem State.memoryOk_iff (s : State) : s.memoryOk = true ↔
    Memory.wf s.mem = true ∧ Memory.wf s.prog = true ∧ s.cellsOnly = true ∧ s.flashOnly = true := by
  simp only [State.memoryOk, Bool.and_eq_true, and_assoc]

/-- `memoryOk` speaks of the two memories only. -/
theorem State.memoryOk_of_kept {s t : State} (hmem : t.mem = s.mem) (hprog : t.prog = s.prog)
    (h : s.memoryOk = true) : t.memoryOk = true := by
  unfold State.memoryOk State.cellsOnly State.flashOnly at *
  rwa [hmem, hprog]

theorem State.setRam_memoryOk {s : State} {a : Word} (v : Byte) (ha : dataValid a = true) (hcell : route a = .cell)
    (h : s.memoryOk = true) : (s.setRam a v).memoryOk = true := by
  obtain ⟨hmem, hprog, hcells, hflash⟩ := s.memoryOk_iff.mp h
  have hlow : 0x20 ≤ a.toNat ∧ ioRegAt a = none := by
    unfold route at hcell
    split at hcell
    · cases hcell
    · split at hcell
      · cases hcell
      next hlo hio => exact ⟨by omega, hio⟩
  refine (State.memoryOk_iff _).mpr ⟨Memory.write_wf hmem _ _, hprog, memory_all_write hcells ?_, hflash⟩
  simpa [hlow, dataValid] using ha

theorem memoryOk_kept : KeptByStepOps fun s => s.memoryOk = true where
  setReg _ _ h := State.memoryOk_of_kept rfl rfl h
  setSreg _ h := State.memoryOk_of_kept rfl rfl h
  setSp _ h := State.memoryOk_of_kept rfl rfl h
  goto _ _ h := State.memoryOk_of_kept rfl rfl h
  raise _ h := State.memoryOk_of_kept rfl rfl h
  readIo _ h := State.memoryOk_of_kept (State.readIo_mem ..) (State.readIo_prog ..) h
  writeIo _ _ h := State.memoryOk_of_kept (State.writeIo_mem ..) (State.writeIo_prog ..) h
  setRam v ha hcell h := State.setRam_memoryOk v ha hcell h
  setIrqInhibit _ _ h := State.memoryOk_of_kept rfl rfl h
  setSleeping _ _ h := State.memoryOk_of_kept rfl rfl h
  clearIrqFlag v h := by cases v <;> exact State.memoryOk_of_kept rfl rfl h
  advanceCycle h := State.memoryOk_of_kept (State.advanceCycle_mem _) (State.advanceCycle_prog _) h

/-- Settles O15: only a store to a plain cell or SRAM writes data memory, and it lists an address that exists. -/
theorem stepKeepsMemoryOk : Obligations.StepKeepsMemoryOk := fun _ _ hs h => memoryOk_kept.step_keeps h hs

/-- Settles O18, by evaluating the reset state. -/
theorem resetMeetsInvariants : Obligations.ResetMeetsInvariants := by
  unfold Obligations.ResetMeetsInvariants
  decide

/-! ### O19: program memory and injected levels -/

/-- Program memory is `prog` and the injected levels are `ext`. -/
def State.hostWritten (prog : Memory) (ext : PortId → Vector (Option Level) 8) (s : State) : Prop :=
  s.prog = prog ∧ ∀ p, (s.portOf p).ext = ext p

theorem State.hostWritten_of_kept {prog : Memory} {ext : PortId → Vector (Option Level) 8} {s t : State}
    (hprog : t.prog = s.prog) (hext : ∀ p, (t.portOf p).ext = (s.portOf p).ext) (h : s.hostWritten prog ext) :
    t.hostWritten prog ext :=
  ⟨hprog.trans h.1, fun p => (hext p).trans (h.2 p)⟩

theorem hostWritten_kept (prog : Memory) (ext : PortId → Vector (Option Level) 8) :
    KeptByStepOps (State.hostWritten prog ext) where
  setReg _ _ h := State.hostWritten_of_kept rfl (fun p => by cases p <;> rfl) h
  setSreg _ h := State.hostWritten_of_kept rfl (fun p => by cases p <;> rfl) h
  setSp _ h := State.hostWritten_of_kept rfl (fun p => by cases p <;> rfl) h
  goto _ _ h := State.hostWritten_of_kept rfl (fun p => by cases p <;> rfl) h
  raise _ h := State.hostWritten_of_kept rfl (fun p => by cases p <;> rfl) h
  readIo r h := State.hostWritten_of_kept (State.readIo_prog ..) (fun p => by cases p <;> simp [State.portOf]) h
  writeIo r v h := State.hostWritten_of_kept (State.writeIo_prog ..) (State.writeIo_portOf_ext _ r v) h
  setRam _ _ _ h := State.hostWritten_of_kept rfl (fun p => by cases p <;> rfl) h
  setIrqInhibit _ _ h := State.hostWritten_of_kept rfl (fun p => by cases p <;> rfl) h
  setSleeping _ _ h := State.hostWritten_of_kept rfl (fun p => by cases p <;> rfl) h
  clearIrqFlag v h := by cases v <;> exact State.hostWritten_of_kept rfl (fun p => by cases p <;> rfl) h
  advanceCycle h := State.hostWritten_of_kept (State.advanceCycle_prog _) (State.advanceCycle_portOf_ext _) h

/-- Settles O19. -/
theorem stepNeverWritesProgramOrInjection : Obligations.StepNeverWritesProgramOrInjection := by
  intro s t h
  obtain ⟨hprog, hext⟩ := (hostWritten_kept s.prog fun p => (s.portOf p).ext).step_keeps h ⟨rfl, fun _ => rfl⟩
  exact ⟨hprog, hext .b, hext .c, hext .d⟩
end Sys2Proof.Machine
end

section
/-! PROOFS. One tick of a timer (R451 60_exceptions.md): the moves of the count, the flags, the tables of R450 and R460, and
the dual-slope period. -/
namespace Sys2Proof.Machine
open Claim

theorem Timer.raiseFlag_tifr_bit {n : Nat} (t : Timer n) {i j : Nat} (hj : j < 8) (b : Bool) :
    (t.raiseFlag i b).tifr.getLsbD j = (t.tifr.getLsbD j || (b && decide (j = i))) := by
  cases b with
  | false => exact (Bool.or_false _).symm
  | true =>
    refine (getLsbD_setBit_of_lt t.tifr i hj true).trans ?_
    by_cases h : j = i <;> simp [h]

/-- A timer at another count: `tov`, `icf` and `update` say which events of R451 step 3 the move is. -/
def Timer.moved {n : Nat} (t : Timer n) (count : BitVec n) (dir : Dir) (tov icf update : Bool) : Timer n :=
  (({ t with count := count, dir := dir }.raiseFlag tovBit tov).raiseFlag icfBit icf).updateOcr update

theorem Timer.moved_tifr_bit {n : Nat} (t : Timer n) (count : BitVec n) (dir : Dir) (tov icf update : Bool) {j : Nat}
    (hj : j < 8) : (t.moved count dir tov icf update).tifr.getLsbD j =
      (t.tifr.getLsbD j || (tov && decide (j = 0)) || (icf && decide (j = 5))) := by
  refine (Timer.raiseFlag_tifr_bit _ hj icf).trans ?_
  rw [Timer.raiseFlag_tifr_bit _ hj]
  rfl


/-- A move leaves the configuration, the buffers, the prescaler and the clock level alone. -/
theorem Timer.moved_kept {n : Nat} (t : Timer n) (count : BitVec n) (dir : Dir) (tov icf update : Bool) :
    let u := t.moved count dir tov icf update
    u.tccrA = t.tccrA ∧ u.tccrB = t.tccrB ∧ u.ocrABuf = t.ocrABuf ∧ u.ocrBBuf = t.ocrBBuf ∧ u.timsk = t.timsk ∧
      u.psc = t.psc ∧ u.extClkPrev = t.extClkPrev := by
  unfold Timer.moved Timer.raiseFlag Timer.updateOcr
  exact ⟨rfl, rfl, rfl, rfl, rfl, rfl, rfl⟩

section Moves

variable {n : Nat} {t : Timer n} {m : WaveMode n} {top : BitVec n}

theorem Timer.advance_normal (hk : m.kind = .normal) :
    t.advance m top = t.moved (t.count + 1) t.dir (t.count == BitVec.allOnes n) false false := by
  simp only [Timer.advance, hk]
  rfl

theorem Timer.advance_ctc (hk : m.kind = .ctc) : t.advance m top =
    t.moved (if t.count = top then 0 else t.count + 1) t.dir (t.count == BitVec.allOnes n)
      (t.count == top && m.icrIsTop) false := by
  simp only [Timer.advance, hk]
  rfl

theorem Timer.advance_fast_top (hk : m.kind = .fast) (ht : t.count = top) :
    t.advance m top = t.moved 0 t.dir true m.icrIsTop true := by
  simp only [Timer.advance, hk, if_pos ht]
  rfl

theorem Timer.advance_fast (hk : m.kind = .fast) (ht : t.count ≠ top) :
    t.advance m top = t.moved (t.count + 1) t.dir false false false := by
  simp only [Timer.advance, hk, if_neg ht]
  rfl

theorem Timer.advance_top (hk : m.isDual = true) (hd : t.dir = .up) (ht : t.count = top) : t.advance m top =
    t.moved (if top = 0 then 0 else t.count - 1) .down false m.icrIsTop (m.kind == .pc) := by
  unfold WaveMode.isDual at hk
  cases hkind : m.kind with
  | pc | pfc => simp only [Timer.advance, hkind, hd, if_pos ht]; rfl
  | _ => rw [hkind] at hk; cases hk

theorem Timer.advance_up (hk : m.isDual = true) (hd : t.dir = .up) (ht : t.count ≠ top) :
    t.advance m top = t.moved (t.count + 1) .up false false false := by
  unfold WaveMode.isDual at hk
  cases hkind : m.kind with
  | pc | pfc => simp only [Timer.advance, hkind, hd, if_neg ht]; rw [← hd]; rfl
  | _ => rw [hkind] at hk; cases hk

theorem Timer.advance_bottom (hk : m.isDual = true) (hd : t.dir = .down) (h0 : t.count = 0) : t.advance m top =
    t.moved (if top = 0 then 0 else 1) .up true false (m.kind == .pfc) := by
  unfold WaveMode.isDual at hk
  cases hkind : m.kind with
  | pc | pfc => simp only [Timer.advance, hkind, hd, if_pos h0]; rfl
  | _ => rw [hkind] at hk; cases hk

theorem Timer.advance_down (hk : m.isDual = true) (hd : t.dir = .down) (h0 : t.count ≠ 0) :
    t.advance m top = t.moved (t.count - 1) .down false false false := by
  unfold WaveMode.isDual at hk
  cases hkind : m.kind with
  | pc | pfc => simp only [Timer.advance, hkind, hd, if_neg h0]; rw [← hd]; rfl
  | _ => rw [hkind] at hk; cases hk

end Moves

/-- What a move leaves, in the words of `Claim.counts`. -/
theorem Timer.moved_event {n : Nat} (t : Timer n) {count : BitVec n} {c : Nat} (hc : count.toNat = c % 2 ^ n) (dir : Dir)
    (tov icf update : Bool) :
    let u := t.moved count dir tov icf update
    u.count.toNat = c % 2 ^ n ∧ u.dir = dir ∧ u.tifr.getLsbD 0 = (t.tifr.getLsbD 0 || tov) ∧
      u.tifr.getLsbD 5 = (t.tifr.getLsbD 5 || icf) ∧ u.ocrAAct = (if update then t.ocrABuf else t.ocrAAct) ∧
      u.ocrBAct = (if update then t.ocrBBuf else t.ocrBAct) := by
  refine ⟨hc, rfl, ?_, ?_, rfl, rfl⟩
  · rw [Timer.moved_tifr_bit _ _ _ _ _ _ (by decide)]; simp
  · rw [Timer.moved_tifr_bit _ _ _ _ _ _ (by decide)]; simp

section
variable {n : Nat} (hn : 0 < n) (x : BitVec n)
include hn

theorem toNat_succ : (x + 1).toNat = (x.toNat + 1) % 2 ^ n := by
  have hone : (1 : BitVec n).toNat = 1 := BitVec.toNat_one hn
  rw [BitVec.toNat_add, hone]

theorem toNat_pred (h : x ≠ 0) : (x - 1).toNat = (x.toNat - 1) % 2 ^ n := by
  have h0 : x.toNat ≠ 0 := fun e => h (BitVec.eq_of_toNat_eq (by simpa using e))
  have hone : (1 : BitVec n).toNat = 1 := BitVec.toNat_one hn
  have hx := x.isLt
  have hwrap : 2 ^ n - 1 + x.toNat = x.toNat - 1 + 2 ^ n := by omega
  rw [BitVec.toNat_sub, hone, hwrap, Nat.add_mod_right]

omit hn in
theorem toNat_ite_zero (c : Prop) [Decidable c] (k : Nat) (hx : ¬ c → x.toNat = k % 2 ^ n) :
    (if c then 0 else x).toNat = (if c then 0 else k) % 2 ^ n := by
  by_cases h : c
  · simp [h]
  · simpa [h] using hx h

/-- The dual-slope moves, of both kinds: they differ in where the compare values are updated. -/
theorem advance_dual (t : Timer n) {m : WaveMode n} (top : BitVec n) (hdual : m.isDual = true) :
    let u := t.advance m top
    let update := if m.kind = .pc then leavesTop t top else leavesBottom t
    u.count.toNat = (if leavesTop t top || leavesBottom t then
        (if top = 0 then 0 else if t.dir = .up then t.count.toNat - 1 else 1)
      else if t.dir = .up then t.count.toNat + 1 else t.count.toNat - 1) % 2 ^ n ∧
    u.dir = (if leavesTop t top then .down else if leavesBottom t then .up else t.dir) ∧
    u.tifr.getLsbD 0 = (t.tifr.getLsbD 0 || leavesBottom t) ∧
    u.tifr.getLsbD 5 = (t.tifr.getLsbD 5 || (leavesTop t top && m.icrIsTop)) ∧
    u.ocrAAct = (if update then t.ocrABuf else t.ocrAAct) ∧ u.ocrBAct = (if update then t.ocrBBuf else t.ocrBAct) := by
  have hkind : (m.kind == .pfc) = !(m.kind == .pc) := by
    unfold WaveMode.isDual at hdual
    cases hk : m.kind <;> simp_all
  cases hd : t.dir with
  | up =>
    by_cases ht : t.count = top
    · rw [Timer.advance_top hdual hd ht]
      have hcount := toNat_ite_zero (t.count - 1) (top = 0) _ fun h => toNat_pred hn t.count (ht ▸ h)
      simpa [leavesTop, leavesBottom, hd, ht] using Timer.moved_event t hcount .down false m.icrIsTop (m.kind == .pc)
    · rw [Timer.advance_up hdual hd ht]
      simpa [leavesTop, leavesBottom, hd, ht] using Timer.moved_event t (toNat_succ hn t.count) .up false false false
  | down =>
    by_cases h0 : t.count = 0
    · rw [Timer.advance_bottom hdual hd h0]
      have hone : (1 : BitVec n).toNat = 1 % 2 ^ n :=
        (BitVec.toNat_one hn).trans (Nat.mod_eq_of_lt (Nat.one_lt_two_pow (by omega))).symm
      have hcount := toNat_ite_zero 1 (top = 0) _ fun _ => hone
      simpa [leavesTop, leavesBottom, hd, h0, hkind] using Timer.moved_event t hcount .up true false (m.kind == .pfc)
    · rw [Timer.advance_down hdual hd h0]
      have hne : ¬ t.count = 0#n := h0
      simpa [leavesTop, leavesBottom, hd, hne] using
        Timer.moved_event t (toNat_pred hn t.count h0) .down false false false

theorem counts_advance (t : Timer n) (m : WaveMode n) (top : BitVec n) :
    counts t (t.advance m top) m.kind top m.icrIsTop := by
  have hmax : (t.count == BitVec.allOnes n) = decide (t.count.toNat = 2 ^ n - 1) := by
    rw [beq_eq_decide_toNat, BitVec.toNat_allOnes]
  cases hk : m.kind with
  | reserved => trivial
  | normal =>
    rw [Timer.advance_normal hk, hmax]
    exact Timer.moved_event t (toNat_succ hn _) _ _ _ _
  | ctc =>
    rw [Timer.advance_ctc hk, hmax]
    have hcount := toNat_ite_zero (t.count + 1) (t.count = top) _ fun _ => toNat_succ hn t.count
    simpa [counts, Bool.beq_eq_decide_eq] using Timer.moved_event t hcount t.dir _ (t.count == top && m.icrIsTop) false
  | fast =>
    by_cases ht : t.count = top
    · rw [Timer.advance_fast_top hk ht]
      simpa [counts, ht] using Timer.moved_event t (count := 0) (c := 0) (by simp) t.dir true m.icrIsTop true
    · rw [Timer.advance_fast hk ht]
      simpa [counts, ht] using Timer.moved_event t (toNat_succ hn t.count) t.dir false false false
  | pc | pfc => simpa [counts, hk] using advance_dual hn t top (m := m) (by rw [WaveMode.isDual, hk]; rfl)
end

/-! ### A whole tick: the compare, then the move -/

/-- Whatever the mode, step 3 of a tick is a move. -/
theorem Timer.advance_eq_moved {n : Nat} (t : Timer n) (m : WaveMode n) (top : BitVec n) :
    ∃ count dir tov icf update, t.advance m top = t.moved count dir tov icf update := by
  have dual (hdual : m.isDual = true) : ∃ count dir tov icf update, t.advance m top = t.moved count dir tov icf update := by
    cases hd : t.dir with
    | up =>
      by_cases ht : t.count = top
      · exact ⟨_, _, _, _, _, Timer.advance_top hdual hd ht⟩
      · exact ⟨_, _, _, _, _, Timer.advance_up hdual hd ht⟩
    | down =>
      by_cases h0 : t.count = 0
      · exact ⟨_, _, _, _, _, Timer.advance_bottom hdual hd h0⟩
      · exact ⟨_, _, _, _, _, Timer.advance_down hdual hd h0⟩
  cases hk : m.kind with
  | normal => exact ⟨_, _, _, _, _, Timer.advance_normal hk⟩
  | ctc => exact ⟨_, _, _, _, _, Timer.advance_ctc hk⟩
  | fast =>
    by_cases ht : t.count = top
    · exact ⟨_, _, _, _, _, Timer.advance_fast_top hk ht⟩
    · exact ⟨_, _, _, _, _, Timer.advance_fast hk ht⟩
  | pc | pfc => exact dual (by rw [WaveMode.isDual, hk]; rfl)
  | reserved => exact ⟨t.count, t.dir, false, false, false, by simp only [Timer.advance, hk]; rfl⟩

theorem Timer.compare_tifr_bit {n : Nat} (t : Timer n) (m : WaveMode n) {j : Nat} (hj : j < 8) :
    (t.compare m).tifr.getLsbD j =
      (t.tifr.getLsbD j || (t.hits m .a && decide (j = 1)) || (t.hits m .b && decide (j = 2))) := by
  refine (Timer.raiseFlag_tifr_bit _ hj _).trans ?_
  rw [Timer.raiseFlag_tifr_bit _ hj]
  rfl

/-- What a tick does to the flags and the block, and what it never writes (R451 step 2, R452). -/
theorem compares_tick {n : Nat} (t : Timer n) (m : WaveMode n) (icr : BitVec n) : Claim.compares t (t.tick m icr) m := by
  obtain ⟨count, dir, tov, icf, update, h⟩ := (t.compare m).advance_eq_moved m (t.topVal m icr)
  have bits {j : Nat} (hj : j < 8) (h0 : j ≠ 0) (h5 : j ≠ 5) :
      (t.tick m icr).tifr.getLsbD j = (t.compare m).tifr.getLsbD j := by
    rw [Timer.tick, h, Timer.moved_tifr_bit _ _ _ _ _ _ hj]
    simp [h0, h5]
  refine ⟨?_, ?_, ?_, ?_, ?_⟩
  · rw [bits (by decide) (by decide) (by decide), Timer.compare_tifr_bit _ _ (by decide), Timer.hits_a]
    simp
  · rw [bits (by decide) (by decide) (by decide), Timer.compare_tifr_bit _ _ (by decide), Timer.hits_b]
    simp
  · rw [Timer.tick, h]; rfl
  · intro j hj hmem
    simp only [List.mem_cons, List.not_mem_nil, not_or, or_false] at hmem
    obtain ⟨h0, h1, h2, h5⟩ := hmem
    rw [bits hj h0 h5, Timer.compare_tifr_bit _ _ hj]
    simp [h1, h2]
  · rw [Timer.tick, h]
    exact (t.compare m).moved_kept count dir tov icf update

/-- `Claim.counts` does not see the compare flags and the block. -/
theorem counts_of_compare {n : Nat} {t u : Timer n} (m : WaveMode n) {kind : WaveKind} {top : BitVec n} {byIcr : Bool}
    (h : counts (t.compare m) u kind top byIcr) : counts t u kind top byIcr := by
  have h0 : (t.compare m).tifr.getLsbD 0 = t.tifr.getLsbD 0 := by
    rw [Timer.compare_tifr_bit _ _ (by decide)]; simp
  have h5 : (t.compare m).tifr.getLsbD 5 = t.tifr.getLsbD 5 := by
    rw [Timer.compare_tifr_bit _ _ (by decide)]; simp
  unfold counts at h ⊢
  rw [h0, h5] at h
  exact h

theorem counts_tick {n : Nat} (hn : 0 < n) (t : Timer n) (m : WaveMode n) (icr : BitVec n) :
    counts t (t.tick m icr) m.kind (t.topVal m icr) m.icrIsTop :=
  counts_of_compare m (counts_advance hn (t.compare m) m (t.topVal m icr))

/-! ### O54: the tables of R450 and R460 -/

theorem Timer.mode0_icrIsTop (t : Timer 8) : t.mode0.icrIsTop = false :=
  (by decide : ∀ g : BitVec 3, (waveModes0.getD g.toNat (WaveMode.reserved 8)).icrIsTop = false) t.wgm0

theorem Timer.mode0_kind (t : Timer 8) : t.mode0.kind =
    [WaveKind.normal, .pc, .ctc, .fast, .reserved, .pc, .reserved, .fast].getD t.wgm0.toNat .reserved :=
  (by decide : ∀ g : BitVec 3, (waveModes0.getD g.toNat (WaveMode.reserved 8)).kind =
    [WaveKind.normal, .pc, .ctc, .fast, .reserved, .pc, .reserved, .fast].getD g.toNat .reserved) t.wgm0

theorem Timer.mode1_kind (t : Timer 16) : t.mode1.kind =
    [WaveKind.normal, .pc, .pc, .pc, .ctc, .fast, .fast, .fast, .pfc, .pfc, .pc, .pc, .ctc, .reserved, .fast, .fast].getD
      t.wgm1.toNat .reserved :=
  (by decide : ∀ g : BitVec 4, (waveModes1.getD g.toNat (WaveMode.reserved 16)).kind =
    [WaveKind.normal, .pc, .pc, .pc, .ctc, .fast, .fast, .fast, .pfc, .pfc, .pc, .pc, .ctc, .reserved, .fast, .fast].getD
      g.toNat .reserved) t.wgm1

theorem Timer.topVal_mode0 (t : Timer 8) (icr : BitVec 8) : t.topVal t.mode0 icr =
    [0xFF, 0xFF, t.ocrABuf, 0xFF, 0, t.ocrAAct, 0, t.ocrAAct].getD t.wgm0.toNat 0 := by
  unfold Timer.mode0
  generalize t.wgm0 = g
  revert g
  intro ⟨g⟩
  fin_cases g <;> rfl

theorem Timer.topVal_mode1 (t : Timer 16) (icr : BitVec 16) : t.topVal t.mode1 icr =
    [0xFFFF, 0xFF, 0x1FF, 0x3FF, t.ocrABuf, 0xFF, 0x1FF, 0x3FF, icr, t.ocrAAct, icr, t.ocrAAct, icr, 0, icr,
      t.ocrAAct].getD t.wgm1.toNat 0 := by
  unfold Timer.mode1
  generalize t.wgm1 = g
  revert g
  intro ⟨g⟩
  fin_cases g <;> rfl

theorem Timer.mode1_icrIsTop_eq (t : Timer 16) : t.mode1.icrIsTop = decide (t.wgm1.toNat ∈ [8, 10, 12, 14]) := by
  rw [Bool.eq_iff_iff, t.mode1_icrIsTop, decide_eq_true_iff]

/-- Settles O54: the tables row by row, and `compares_tick` and `counts_tick` for the tick. -/
theorem compareMatchSetsFlag : Obligations.CompareMatchSetsFlag :=
  ⟨fun t icr => ⟨t.mode0_kind, fun _ => ⟨t.topVal_mode0 icr, compares_tick t _ icr,
      t.mode0_icrIsTop ▸ counts_tick (by decide) t t.mode0 icr⟩⟩,
    fun t icr => ⟨t.mode1_kind, fun _ => ⟨t.topVal_mode1 icr, compares_tick t _ icr,
      t.mode1_icrIsTop_eq ▸ counts_tick (by decide) t t.mode1 icr⟩⟩⟩

/-! ### O55: the dual-slope period -/

/-- The count and the direction `j` ticks after BOTTOM, with TOP = `T`. -/
def Timer.onSlope {n : Nat} (T j : Nat) (u : Timer n) : Prop :=
  u.count.toNat = (if j ≤ T then j else 2 * T - j) ∧ u.dir = (if 1 ≤ j ∧ j ≤ T then .up else .down)

/-- A dual-slope tick with TOP at least 1 and the count within it, in numbers. -/
theorem Timer.tick_dual {n : Nat} (hn : 0 < n) {u : Timer n} {m : WaveMode n} {icr top : BitVec n}
    (hdual : m.isDual = true) (htop : u.topVal m icr = top) (hT : 1 ≤ top.toNat) (hle : u.count.toNat ≤ top.toNat) :
    let v := u.tick m icr
    let c := u.count.toNat
    (u.dir = .up → v.count.toNat = (if c = top.toNat then c - 1 else c + 1) ∧
      v.dir = if c = top.toNat then .down else .up) ∧
    (u.dir = .down → v.count.toNat = (if c = 0 then 1 else c - 1) ∧ v.dir = if c = 0 then .up else .down) := by
  have hlt := top.isLt
  have hne : ¬ top = 0 := fun e => by rw [e] at hT; simp at hT
  have hone : (1 : BitVec n).toNat = 1 := BitVec.toNat_one hn
  have htick : u.tick m icr = (u.compare m).advance m top := by rw [← htop]; rfl
  have hsucc := toNat_succ hn u.count
  have hpred (h : u.count.toNat ≠ 0) : (u.count - 1).toNat = u.count.toNat - 1 := by
    rw [toNat_pred hn u.count fun e => h (by rw [e]; simp), Nat.mod_eq_of_lt (by omega)]
  refine ⟨fun hd => ?_, fun hd => ?_⟩
  · by_cases h : u.count = top
    · rw [htick, Timer.advance_top (t := u.compare m) hdual hd h, if_neg hne, if_pos (by rw [h]), if_pos (by rw [h])]
      exact ⟨hpred (by rw [h]; omega), rfl⟩
    · have hnat : u.count.toNat ≠ top.toNat := fun e => h (BitVec.eq_of_toNat_eq e)
      rw [htick, Timer.advance_up (t := u.compare m) hdual hd h, if_neg hnat, if_neg hnat]
      exact ⟨hsucc.trans (Nat.mod_eq_of_lt (by omega)), rfl⟩
  · by_cases h : u.count = 0
    · have hnat : u.count.toNat = 0 := by rw [h]; simp
      rw [htick, Timer.advance_bottom (t := u.compare m) hdual hd h, if_neg hne, if_pos hnat, if_pos hnat]
      exact ⟨hone, rfl⟩
    · have hnat : u.count.toNat ≠ 0 := fun e => h (BitVec.eq_of_toNat_eq (by simpa using e))
      rw [htick, Timer.advance_down (t := u.compare m) hdual hd h, if_neg hnat, if_neg hnat]
      exact ⟨hpred hnat, rfl⟩

theorem Timer.tick_onSlope {n : Nat} (hn : 0 < n) {u : Timer n} {m : WaveMode n} {icr top : BitVec n} {j : Nat}
    (hdual : m.isDual = true) (htop : u.topVal m icr = top) (hT : 1 ≤ top.toNat) (hj : j < 2 * top.toNat)
    (h : u.onSlope top.toNat j) : (u.tick m icr).onSlope top.toNat (j + 1) := by
  obtain ⟨hc, hd⟩ := h
  have hle : u.count.toNat ≤ top.toNat := by rw [hc]; split <;> omega
  obtain ⟨hup, hdown⟩ := Timer.tick_dual hn hdual htop hT hle
  by_cases hslope : 1 ≤ j ∧ j ≤ top.toNat
  · obtain ⟨hcount, hdir⟩ := hup (hd.trans (if_pos hslope))
    rw [if_pos hslope.2] at hc
    rw [hc] at hcount hdir
    refine ⟨by rw [hcount]; split_ifs <;> omega, ?_⟩
    by_cases hj : j = top.toNat
    · rw [hdir, if_pos hj, if_neg (by omega)]
    · rw [hdir, if_neg hj, if_pos (by omega)]
  · obtain ⟨hcount, hdir⟩ := hdown (hd.trans (if_neg hslope))
    have h0 : u.count.toNat = 0 ↔ j = 0 := by rw [hc]; split_ifs <;> omega
    refine ⟨by rw [hcount]; split_ifs at * <;> omega, ?_⟩
    by_cases hj : j = 0
    · rw [hdir, if_pos (h0.mpr hj), if_pos (by omega)]
    · rw [hdir, if_neg (mt h0.mp hj), if_neg (by omega)]

/-- With no change pending the compare values stay, and TOP with them. -/
theorem Timer.topVal_tick {n : Nat} {u : Timer n} {m : WaveMode n} (icr : BitVec n) (h : u.ocrABuf = u.ocrAAct) :
    (u.tick m icr).ocrABuf = (u.tick m icr).ocrAAct ∧ (u.tick m icr).topVal m icr = u.topVal m icr := by
  obtain ⟨count, dir, tov, icf, update, hmove⟩ := (u.compare m).advance_eq_moved m (u.topVal m icr)
  have hact : (u.tick m icr).ocrAAct = u.ocrAAct := by
    rw [Timer.tick, hmove]
    show (if update then u.ocrABuf else u.ocrAAct) = u.ocrAAct
    rw [h, ite_self]
  have hbuf : (u.tick m icr).ocrABuf = u.ocrABuf := by rw [Timer.tick, hmove]; rfl
  refine ⟨by rw [hbuf, hact, h], ?_⟩
  unfold Timer.topVal Timer.cmpVal
  rw [hact, hbuf]

theorem dualSlope (n : Nat) (hn : 0 < n) : dualSlopeCounts n := by
  intro t m icr j hdual hdir hcount hocr T hT hj
  have along (j : Nat) (hj : j ≤ 2 * T) :
      let u := (fun u : Timer n => u.tick m icr)^[j] t
      u.ocrABuf = u.ocrAAct ∧ u.topVal m icr = t.topVal m icr ∧ u.onSlope T j := by
    induction j with
    | zero => exact ⟨hocr, rfl, by simp [hcount], by simp [hdir]⟩
    | succ j ih =>
      rw [Function.iterate_succ_apply']
      obtain ⟨hbuf, htop, hslope⟩ := ih (by omega)
      obtain ⟨hbuf', htop'⟩ := Timer.topVal_tick (m := m) icr hbuf
      exact ⟨hbuf', htop'.trans htop, Timer.tick_onSlope hn hdual htop hT (by omega) hslope⟩
  exact (along j hj).2.2.1

/-- Settles O55. -/
theorem dualSlopePeriod : Obligations.DualSlopePeriod := ⟨dualSlope 8 (by decide), dualSlope 16 (by decide)⟩

end Sys2Proof.Machine
end

section
/-! PROOFS. The reserved bits and the hidden counts (R61 and R81 10_state.md): both speak of the two timers, SMCR and the
noise canceller only, and every write to those is masked or in range. -/
namespace Sys2Proof.Machine
open Claim

/-! ### What a cycle does to the timers -/

theorem State.inputCapture_timer1 (s : State) (l : Level) :
    (s.inputCapture l).timer1 = s.timer1.raiseFlag icfBit (s.captures l) := rfl

/-- A cycle of Timer0: no tick, a tick in a reserved mode, or a tick. -/
theorem State.clock0_cases (s : State) (l : Level) :
    let u : State := { s with timer0 := s.timer0.prescaled l }
    ((s.timer0.tickDue l).2 = false ∧ s.clock0 l = u) ∨
    ((s.timer0.tickDue l).2 = true ∧ u.timer0.mode0.kind = .reserved ∧
      s.clock0 l = u.raise (.timerModeReserved .t0 u.timer0.wgm0.toNat)) ∨
    ((s.timer0.tickDue l).2 = true ∧ u.timer0.mode0.kind ≠ .reserved ∧
      s.clock0 l = { u with
        timer0 := u.timer0.tick u.timer0.mode0 0
        portD := u.portD.tickPins 6 5 u.timer0 u.timer0.mode0 0 }) := by
  intro u
  cases hdue : (s.timer0.tickDue l).2 with
  | false => exact .inl ⟨rfl, by rw [State.clock0, hdue]; rfl⟩
  | true =>
    have hclock : s.clock0 l = u.tick0 := by rw [State.clock0, hdue]; rfl
    by_cases hk : u.timer0.mode0.kind = .reserved
    · exact .inr (.inl ⟨rfl, hk, hclock.trans (if_pos hk)⟩)
    · exact .inr (.inr ⟨rfl, hk, hclock.trans (if_neg hk)⟩)

/-- A cycle of Timer1. -/
theorem State.clock1_cases (s : State) (l : Level) :
    let u : State := { s with timer1 := s.timer1.prescaled l }
    ((s.timer1.tickDue l).2 = false ∧ s.clock1 l = u) ∨
    ((s.timer1.tickDue l).2 = true ∧ u.timer1.mode1.kind = .reserved ∧
      s.clock1 l = u.raise (.timerModeReserved .t1 u.timer1.wgm1.toNat)) ∨
    ((s.timer1.tickDue l).2 = true ∧ u.timer1.mode1.kind ≠ .reserved ∧
      s.clock1 l = { u with
        timer1 := u.timer1.tick u.timer1.mode1 s.icr1
        portB := u.portB.tickPins 1 2 u.timer1 u.timer1.mode1 s.icr1 }) := by
  intro u
  cases hdue : (s.timer1.tickDue l).2 with
  | false => exact .inl ⟨rfl, by rw [State.clock1, hdue]; rfl⟩
  | true =>
    have hclock : s.clock1 l = u.tick1 := by rw [State.clock1, hdue]; rfl
    by_cases hk : u.timer1.mode1.kind = .reserved
    · exact .inr (.inl ⟨rfl, hk, hclock.trans (if_pos hk)⟩)
    · exact .inr (.inr ⟨rfl, hk, hclock.trans (if_neg hk)⟩)

/-- What sampling and both timers keep, a cycle keeps. -/
theorem State.advanceCycle_keeps {P : State → Prop} (hdrawn : ∀ {s}, P s → P s.drawn)
    (hcapture : ∀ {s} l, P s → P (s.inputCapture l)) (hclock0 : ∀ {s} l, P s → P (s.clock0 l))
    (hclock1 : ∀ {s} l, P s → P (s.clock1 l)) {s : State} (hs : P s) : P s.advanceCycle := by
  have h := hclock0 (s.sample (clockPin .t0) s.draws) (hcapture (s.sample capturePin (s.draws + 2)) (hdrawn hs))
  unfold State.advanceCycle
  dsimp only
  split
  · exact h
  · exact hclock1 _ h

/-! ### Properties of the timers, SMCR and the noise canceller -/

/-- `Q` is kept by every write to a timer: the CPU's, an interrupt's and a cycle's. -/
structure Timer.Kept {n : Nat} (maskB maskF : Byte) (mode : Timer n → WaveMode n) (Q : Timer n → Prop) : Prop where
  clearFlags : ∀ {t} (w : Byte), Q t → Q { t with tifr := t.tifr &&& w }
  writeTccrA : ∀ {t} (v : Byte), Q t → Q { t with tccrA := v &&& maskTccrA }
  writeTccrB : ∀ {t} (v : Byte), Q t → Q (t.writeTccrB maskB v)
  writeCount : ∀ {t} (v : BitVec n), Q t → Q { t with count := v, cmpBlock := true }
  writeOcr : ∀ {t} (m : WaveMode n) (x : Channel) (v : BitVec n), Q t → Q (t.writeOcr m x v)
  writeTimsk : ∀ {t} (v : Byte), Q t → Q { t with timsk := v &&& maskF }
  prescaled : ∀ {t} (l : Level), Q t → Q (t.prescaled l)
  tick : ∀ {t} (icr : BitVec n), (mode t).kind ≠ .reserved → Q t → Q (t.tick (mode t) icr)

/-- A property of each timer, of SMCR and of the noise canceller's count. -/
def State.fieldsAre (Q0 : Timer 8 → Prop) (Q1 : Timer 16 → Prop) (QS : Byte → Prop) (QC : Nat → Prop) (s : State) : Prop :=
  Q0 s.timer0 ∧ Q1 s.timer1 ∧ QS s.smcr ∧ QC s.icpCount

section
variable {Q0 : Timer 8 → Prop} {Q1 : Timer 16 → Prop} {QS : Byte → Prop} {QC : Nat → Prop}

theorem State.fieldsAre_of_kept {s t : State} (h0 : t.timer0 = s.timer0) (h1 : t.timer1 = s.timer1)
    (hs : t.smcr = s.smcr) (hc : t.icpCount = s.icpCount) (h : s.fieldsAre Q0 Q1 QS QC) : t.fieldsAre Q0 Q1 QS QC := by
  unfold State.fieldsAre at h ⊢
  rwa [h0, h1, hs, hc]

/-- A pin action writes none of them. -/
theorem State.pinAction_fieldsAre {s : State} (t : TimerId) (x : Channel) (a : PinAct) (h : s.fieldsAre Q0 Q1 QS QC) :
    (s.pinAction t x a).fieldsAre Q0 Q1 QS QC :=
  State.fieldsAre_of_kept (s.pinAction_timer0 t x a) (s.pinAction_timer1 t x a) (s.pinAction_smcr t x a)
    (s.pinAction_icpCount t x a) h

variable (h0 : Timer.Kept maskTccr0b maskFlags0 Timer.mode0 Q0) (h1 : Timer.Kept maskTccr1b maskFlags1 Timer.mode1 Q1)
include h0 h1

theorem State.writeIo_fieldsAre (hS : ∀ v, QS (v &&& maskSmcr)) {s : State} (r : IoReg) (v : Byte)
    (h : s.fieldsAre Q0 Q1 QS QC) : (s.writeIo r v).fieldsAre Q0 Q1 QS QC := by
  obtain ⟨ht0, ht1, hs, hc⟩ := h
  cases r with
  | pin p | ddr p | port p =>
    exact State.fieldsAre_of_kept (State.setPort_timer0 ..) (State.setPort_timer1 ..) (State.setPort_smcr ..)
      (State.setPort_icpCount ..) ⟨ht0, ht1, hs, hc⟩
  | spl | sph | sreg | tcnt1h | icr1l | icr1h | ocr1h => exact ⟨ht0, ht1, hs, hc⟩
  | smcr => exact ⟨ht0, ht1, hS v, hc⟩
  | tifr0 => exact ⟨h0.clearFlags _ ht0, ht1, hs, hc⟩
  | tccr0a => exact ⟨h0.writeTccrA _ ht0, ht1, hs, hc⟩
  | tccr0b => exact State.pinAction_fieldsAre _ _ _ (State.pinAction_fieldsAre _ _ _ ⟨h0.writeTccrB _ ht0, ht1, hs, hc⟩)
  | tcnt0 => exact ⟨h0.writeCount _ ht0, ht1, hs, hc⟩
  | ocr0 x => exact ⟨h0.writeOcr _ x _ ht0, ht1, hs, hc⟩
  | timsk0 => exact ⟨h0.writeTimsk _ ht0, ht1, hs, hc⟩
  | tifr1 => exact ⟨ht0, h1.clearFlags _ ht1, hs, hc⟩
  | tccr1a => exact ⟨ht0, h1.writeTccrA _ ht1, hs, hc⟩
  | tccr1b => exact ⟨ht0, h1.writeTccrB _ ht1, hs, hc⟩
  | tccr1c => exact State.pinAction_fieldsAre _ _ _ (State.pinAction_fieldsAre _ _ _ ⟨ht0, ht1, hs, hc⟩)
  | tcnt1l => exact ⟨ht0, h1.writeCount _ ht1, hs, hc⟩
  | ocr1l x => exact ⟨ht0, h1.writeOcr _ x _ ht1, hs, hc⟩
  | timsk1 => exact ⟨ht0, h1.writeTimsk _ ht1, hs, hc⟩

theorem State.clearIrqFlag_fieldsAre {s : State} (v : IrqSource) (h : s.fieldsAre Q0 Q1 QS QC) :
    (s.clearIrqFlag v).fieldsAre Q0 Q1 QS QC := by
  obtain ⟨ht0, ht1, hs, hc⟩ := h
  cases v with
  | timer0CompA | timer0CompB | timer0Ovf => exact ⟨h0.clearFlags _ ht0, ht1, hs, hc⟩
  | timer1Capt | timer1CompA | timer1CompB | timer1Ovf => exact ⟨ht0, h1.clearFlags _ ht1, hs, hc⟩

omit h1 in
theorem State.clock0_fieldsAre {s : State} (l : Level) (h : s.fieldsAre Q0 Q1 QS QC) :
    (s.clock0 l).fieldsAre Q0 Q1 QS QC := by
  obtain ⟨ht0, ht1, hs, hc⟩ := h
  have hpre := h0.prescaled l ht0
  obtain ⟨-, e⟩ | ⟨-, -, e⟩ | ⟨-, hk, e⟩ := State.clock0_cases s l
  · rw [e]; exact ⟨hpre, ht1, hs, hc⟩
  · rw [e]; exact ⟨hpre, ht1, hs, hc⟩
  · rw [e]; exact ⟨h0.tick _ hk hpre, ht1, hs, hc⟩

omit h0 in
theorem State.clock1_fieldsAre {s : State} (l : Level) (h : s.fieldsAre Q0 Q1 QS QC) :
    (s.clock1 l).fieldsAre Q0 Q1 QS QC := by
  obtain ⟨ht0, ht1, hs, hc⟩ := h
  have hpre := h1.prescaled l ht1
  obtain ⟨-, e⟩ | ⟨-, -, e⟩ | ⟨-, hk, e⟩ := State.clock1_cases s l
  · rw [e]; exact ⟨ht0, hpre, hs, hc⟩
  · rw [e]; exact ⟨ht0, hpre, hs, hc⟩
  · rw [e]; exact ⟨ht0, h1.tick _ hk hpre, hs, hc⟩

/-- Such a property is kept by every step. -/
theorem fieldsAre_kept (hcapture : ∀ {t} b, Q1 t → Q1 (t.raiseFlag icfBit b)) (hS : ∀ v, QS (v &&& maskSmcr))
    (hcount : ∀ (s : State) (l : Level), QC s.icpCount → QC (s.inputCapture l).icpCount) :
    KeptByStepOps (State.fieldsAre Q0 Q1 QS QC) where
  setReg _ _ h := h
  setSreg _ h := h
  setSp _ h := h
  goto _ _ h := h
  raise _ h := h
  readIo r h := State.fieldsAre_of_kept (State.readIo_timer0 _ r) (State.readIo_timer1 _ r) (State.readIo_smcr _ r)
    (State.readIo_icpCount _ r) h
  writeIo r v h := State.writeIo_fieldsAre h0 h1 hS r v h
  setRam _ _ _ h := h
  setIrqInhibit _ _ h := h
  setSleeping _ _ h := h
  clearIrqFlag v h := State.clearIrqFlag_fieldsAre h0 h1 v h
  advanceCycle := State.advanceCycle_keeps (fun h => h)
    (fun {s} l ⟨ht0, ht1, hs, hc⟩ => ⟨ht0, hcapture _ ht1, hs, hcount s l hc⟩)
    (fun l => State.clock0_fieldsAre h0 l) (fun l => State.clock1_fieldsAre h1 l)
end

/-! ### O16: the reserved bits -/

theorem within_iff (v mask : Byte) : within v mask = true ↔ ∀ j, j < 8 → v.getLsbD j = true → mask.getLsbD j = true := by
  rw [within, beq_iff_eq, BitVec.eq_of_getLsbD_eq_iff]
  refine forall₂_congr fun j _ => ?_
  rw [BitVec.getLsbD_and]
  cases v.getLsbD j <;> simp

theorem within_and_mask (v mask : Byte) : within (v &&& mask) mask = true := by
  rw [within_iff]
  intro j _ h
  rw [BitVec.getLsbD_and, Bool.and_eq_true] at h
  exact h.2

theorem within_and {v mask : Byte} (w : Byte) (h : within v mask = true) : within (v &&& w) mask = true := by
  rw [within_iff] at h ⊢
  intro j hj hb
  rw [BitVec.getLsbD_and, Bool.and_eq_true] at hb
  exact h j hj hb.1

/-- No reserved bit of a timer's control, mask and flag registers is set. -/
def Timer.reservedClear {n : Nat} (maskB maskF : Byte) (t : Timer n) : Prop :=
  within t.tccrA maskTccrA = true ∧ within t.tccrB maskB = true ∧ within t.timsk maskF = true ∧
    within t.tifr maskF = true

/-- A tick that does not leave an ICR1 TOP does not touch ICF. -/
theorem Timer.tick_icf {n : Nat} (hn : 0 < n) {t : Timer n} {m : WaveMode n} (icr : BitVec n) (hk : m.kind ≠ .reserved)
    (hicr : m.icrIsTop = false) : (t.tick m icr).tifr.getLsbD 5 = t.tifr.getLsbD 5 := by
  have h := counts_tick hn t m icr
  rw [hicr] at h
  cases hkind : m.kind with
  | reserved => exact absurd hkind hk
  | normal | ctc | fast | pc | pfc =>
    rw [hkind] at h
    obtain ⟨-, -, -, h5, -⟩ := h
    simpa using h5

theorem Timer.reservedClear_kept {n : Nat} (hn : 0 < n) {maskB maskF : Byte} {mode : Timer n → WaveMode n}
    (hlow : ∀ j ∈ [0, 1, 2], maskF.getLsbD j = true)
    (hicf : maskF.getLsbD 5 = true ∨ ∀ t, (mode t).icrIsTop = false) :
    Timer.Kept maskB maskF mode (Timer.reservedClear maskB maskF) where
  clearFlags w := fun ⟨ha, hb, hm, hf⟩ => ⟨ha, hb, hm, within_and w hf⟩
  writeTccrA v := fun ⟨_, hb, hm, hf⟩ => ⟨within_and_mask v _, hb, hm, hf⟩
  writeTccrB v := fun ⟨ha, _, hm, hf⟩ => ⟨ha, within_and_mask v _, hm, hf⟩
  writeCount _ h := h
  writeOcr _ x _ h := by cases x <;> exact h
  writeTimsk v := fun ⟨ha, hb, _, hf⟩ => ⟨ha, hb, within_and_mask v _, hf⟩
  prescaled _ h := h
  tick {t} icr hk := fun ⟨ha, hb, hm, hf⟩ => by
    obtain ⟨-, -, -, hbits, htccrA, htccrB, -, -, htimsk, -⟩ := compares_tick t (mode t) icr
    refine ⟨by rwa [htccrA], by rwa [htccrB], by rwa [htimsk], ?_⟩
    rw [within_iff] at hf ⊢
    intro j hj hset
    by_cases hj' : j ∈ [0, 1, 2]
    · exact hlow j hj'
    · by_cases h5 : j = 5
      · subst h5
        obtain hmask | hmode := hicf
        · exact hmask
        · exact hf 5 hj (Timer.tick_icf hn icr hk (hmode t) ▸ hset)
      · exact hf j hj (hbits j hj (by simp_all) ▸ hset)

theorem State.reservedClear_iff (s : State) : s.reservedClear = true ↔
    s.fieldsAre (Timer.reservedClear maskTccr0b maskFlags0) (Timer.reservedClear maskTccr1b maskFlags1)
      (fun v => within v maskSmcr = true) (fun _ => True) := by
  simp only [State.reservedClear, State.fieldsAre, Timer.reservedClear, Bool.and_eq_true]
  tauto

theorem Timer.raiseIcf_reservedClear {t : Timer 16} (b : Bool) (h : t.reservedClear maskTccr1b maskFlags1) :
    (t.raiseFlag icfBit b).reservedClear maskTccr1b maskFlags1 := by
  obtain ⟨ha, hb, hm, hf⟩ := h
  refine ⟨ha, hb, hm, ?_⟩
  rw [within_iff] at hf ⊢
  intro j hj hset
  rw [Timer.raiseFlag_tifr_bit _ hj, Bool.or_eq_true, Bool.and_eq_true, decide_eq_true_iff] at hset
  obtain hold | ⟨-, rfl⟩ := hset
  · exact hf j hj hold
  · decide

/-- Settles O16: every write is under its mask, and a tick raises implemented flags only, Timer0's never ICF. -/
theorem stepKeepsReservedBitsClear : Obligations.StepKeepsReservedBitsClear := by
  intro s t hs h
  have hkept := fieldsAre_kept (QS := fun v => within v maskSmcr = true) (QC := fun _ => True)
    (Timer.reservedClear_kept (by decide) (maskB := maskTccr0b) (maskF := maskFlags0) (mode := Timer.mode0) (by decide)
      (.inr Timer.mode0_icrIsTop))
    (Timer.reservedClear_kept (by decide) (maskB := maskTccr1b) (maskF := maskFlags1) (mode := Timer.mode1) (by decide)
      (.inl (by decide)))
    Timer.raiseIcf_reservedClear (fun v => within_and_mask v maskSmcr) (fun _ _ _ => trivial)
  exact t.reservedClear_iff.mpr (hkept.step_keeps h (s.reservedClear_iff.mp hs))

/-! ### O17: the hidden counts -/

theorem divisor_pos {cs : BitVec 3} (h0 : cs ≠ 0) (h6 : cs ≠ 6) (h7 : cs ≠ 7) : 0 < divisor cs :=
  (by decide : ∀ c : BitVec 3, c ≠ 0 → c ≠ 6 → c ≠ 7 → 0 < divisor c) cs h0 h6 h7

theorem Timer.pscOk_iff {n : Nat} (t : Timer n) : t.pscOk = true ↔ t.psc < max 1 (divisor t.cs) := decide_eq_true_iff

theorem Timer.prescaled_pscOk {n : Nat} {t : Timer n} (l : Level) (h : t.pscOk = true) : (t.prescaled l).pscOk = true := by
  have hcs : (t.prescaled l).cs = t.cs := rfl
  rw [Timer.pscOk_iff] at h ⊢
  rw [hcs]
  show (t.tickDue l).1 < _
  unfold Timer.tickDue
  split_ifs with h0 h6 h7 hwrap
  · exact h
  · exact h
  · exact h
  · exact Nat.lt_of_lt_of_le Nat.one_pos (Nat.le_max_left ..)
  · have := divisor_pos h0 h6 h7
    show t.psc + 1 < _
    omega

theorem Timer.pscOk_kept {n : Nat} {maskB maskF : Byte} {mode : Timer n → WaveMode n} :
    Timer.Kept maskB maskF mode (fun t => t.pscOk = true) where
  clearFlags _ h := h
  writeTccrA _ h := h
  writeTccrB {t} v h := by
    rw [Timer.pscOk_iff] at h ⊢
    show (if (v &&& maskB).extractLsb' 0 3 = t.cs then t.psc else 0) < max 1 (divisor ((v &&& maskB).extractLsb' 0 3))
    split_ifs with hcs
    · rwa [hcs]
    · exact Nat.lt_of_lt_of_le Nat.one_pos (Nat.le_max_left ..)
  writeCount _ h := h
  writeOcr _ x _ h := by cases x <;> exact h
  writeTimsk _ h := h
  prescaled l h := Timer.prescaled_pscOk l h
  tick {t} icr _ h := by
    obtain ⟨-, -, -, -, -, htccrB, -, -, -, hpsc, -⟩ := compares_tick t (mode t) icr
    rw [Timer.pscOk_iff] at h ⊢
    rwa [hpsc, Timer.cs, htccrB]

/-- A run of differing samples that gives no edge is shorter than four. -/
theorem State.inputCapture_icpCount_le (s : State) (l : Level) : (s.inputCapture l).icpCount ≤ 4 := by
  show (if s.icpDiffers l && !s.icpEdge l then s.icpCount + 1 else 0) ≤ 4
  split_ifs with h
  · simp only [State.icpEdge, Bool.and_eq_true, Bool.not_eq_true', Bool.and_eq_false_iff, Bool.or_eq_false_iff,
      decide_eq_false_iff_not] at h
    obtain ⟨hdiff, hedge⟩ := h
    rw [hdiff] at hedge
    simp at hedge
    omega
  · exact Nat.zero_le 4

theorem State.hiddenOk_iff (s : State) : s.hiddenOk = true ↔
    s.fieldsAre (fun t => t.pscOk = true) (fun t => t.pscOk = true) (fun _ => True) (· ≤ 4) := by
  simp only [State.hiddenOk, State.fieldsAre, Bool.and_eq_true, decide_eq_true_eq]
  tauto

/-- Settles O17: a write of CS restarts the prescaler, which wraps at its division factor; the fourth differing sample is
an edge. -/
theorem stepKeepsHiddenRanges : Obligations.StepKeepsHiddenRanges := by
  intro s t hs h
  have hkept := fieldsAre_kept (QS := fun _ => True) (QC := (· ≤ 4)) Timer.pscOk_kept Timer.pscOk_kept
    (fun _ h => h) (fun _ => trivial) (fun s l _ => s.inputCapture_icpCount_le l)
  exact t.hiddenOk_iff.mpr (hkept.step_keeps h (s.hiddenOk_iff.mp hs))

end Sys2Proof.Machine
end

section
/-! PROOFS. Who writes the hidden state (R381 44_mcu_control.md, R425 60_exceptions.md). -/
namespace Sys2Proof.Machine
open Claim

/-! ### O12: irqInhibit and sleeping -/

/-- A property of a field that no shared operation writes is kept by them all. -/
theorem keptByOps_of_kept {α : Type} (f : State → α) (a : α)
    (setReg : ∀ (s : State) d v, f (s.setReg d v) = f s) (setSreg : ∀ (s : State) v, f (s.setSreg v) = f s)
    (setSp : ∀ (s : State) v, f (s.setSp v) = f s) (goto : ∀ (s : State) t n, f (s.goto t n) = f s)
    (raise : ∀ (s : State) e, f (s.raise e) = f s) (readIo : ∀ (s : State) r, f (s.readIo r).2 = f s)
    (writeIo : ∀ (s : State) r v, f (s.writeIo r v) = f s) (setRam : ∀ (s : State) x v, f (s.setRam x v) = f s) :
    KeptByOps fun s => f s = a where
  setReg _ _ h := (setReg ..).trans h
  setSreg _ h := (setSreg ..).trans h
  setSp _ h := (setSp ..).trans h
  goto _ _ h := (goto ..).trans h
  raise _ h := (raise ..).trans h
  readIo _ h := (readIo ..).trans h
  writeIo _ _ h := (writeIo ..).trans h
  setRam _ _ _ h := (setRam ..).trans h

theorem irqInhibit_kept (a : Bool) : KeptByOps fun s => s.irqInhibit = a :=
  keptByOps_of_kept State.irqInhibit a (fun _ _ _ => rfl) (fun _ _ => rfl) (fun _ _ => rfl) (fun _ _ _ => rfl)
    (fun _ _ => rfl) State.readIo_irqInhibit State.writeIo_irqInhibit (fun _ _ _ => rfl)

theorem sleeping_kept (a : Bool) : KeptByOps fun s => s.sleeping = a :=
  keptByOps_of_kept State.sleeping a (fun _ _ _ => rfl) (fun _ _ => rfl) (fun _ _ => rfl) (fun _ _ _ => rfl)
    (fun _ _ => rfl) State.readIo_sleeping State.writeIo_sleeping (fun _ _ _ => rfl)

/-- The capture unit's sampling state, program memory and the injected levels. -/
def State.sampledAndStored (s : State) :
    Option Level × Nat × Memory × (Vector (Option Level) 8 × Vector (Option Level) 8 × Vector (Option Level) 8) :=
  (s.icpLevel, s.icpCount, s.prog, s.portB.ext, s.portC.ext, s.portD.ext)

theorem State.readIo_sampledAndStored (s : State) (r : IoReg) :
    (s.readIo r).2.sampledAndStored = s.sampledAndStored := by
  simp [State.sampledAndStored]

theorem State.writeIo_sampledAndStored (s : State) (r : IoReg) (v : Byte) :
    (s.writeIo r v).sampledAndStored = s.sampledAndStored := by
  have hb := State.writeIo_portOf_ext s r v .b
  have hc := State.writeIo_portOf_ext s r v .c
  have hd := State.writeIo_portOf_ext s r v .d
  simp only [State.portOf] at hb hc hd
  simp [State.sampledAndStored, hb, hc, hd]

theorem sampledAndStored_kept (s : State) : KeptByOps fun t => t.sampledAndStored = s.sampledAndStored :=
  keptByOps_of_kept State.sampledAndStored _ (fun _ _ _ => rfl) (fun _ _ => rfl) (fun _ _ => rfl) (fun _ _ _ => rfl)
    (fun _ _ => rfl) State.readIo_sampledAndStored State.writeIo_sampledAndStored (fun _ _ _ => rfl)

theorem KeptByOps.of_exec {P : State → Prop} (hP : KeptByOps P) {i : Instr} {s t : State} (h : exec i s = .next t)
    (hinhibit : (∃ b, i = .bset b) ∨ i = .reti → ∀ (s : State) (b : Bool), P s → P (s.setIrqInhibit b))
    (hsleep : i = .sleep → ∀ (s : State) (b : Bool), P s → P (s.setSleeping b)) (hs : P s) : P t := by
  obtain ⟨t', ht', hPt⟩ := hP.exec_keeps i hinhibit hsleep hs
  rw [h] at ht'
  cases ht'
  exact hPt

/-- An access that does not halt the block runs its continuation. -/
theorem State.memRead_of_unhalted {s : State} {a : Word} {k : Byte → State → State} (h : (s.memRead a k).halted = none) :
    s.memRead a k = k (s.readAt a).1 (s.readAt a).2 := by
  cases ha : dataValid a with
  | true => exact State.memRead_valid s ha k
  | false => rw [State.memRead_invalid s ha] at h; cases h

theorem State.pop8_of_unhalted {s : State} {k : Byte → State → State} (h : (s.pop8 k).halted = none) :
    ∃ v u, s.pop8 k = k v u := ⟨_, _, State.memRead_of_unhalted h⟩

theorem State.popReturn_of_unhalted {s : State} {k : Word → State → State} (h : (s.popReturn k).halted = none) :
    ∃ ret u, s.popReturn k = k ret u := by
  obtain ⟨hi, t, ht⟩ := State.pop8_of_unhalted (s := s) h
  have hrest : (t.pop8 fun lo u => k (hi ++ lo) u).halted = none := by rw [← ht]; exact h
  obtain ⟨lo, u, hu⟩ := State.pop8_of_unhalted hrest
  exact ⟨hi ++ lo, u, ht.trans hu⟩

/-- Settles O12: BSET, RETI and SLEEP by what they write; every other instruction is made of operations that write neither
flag. -/
theorem hiddenStateWriters : Obligations.HiddenStateWriters := by
  intro i s t h
  have hstored := (sampledAndStored_kept s).of_exec h (fun _ _ _ hs => hs) (fun _ _ _ hs => hs) rfl
  simp only [State.sampledAndStored, Prod.mk.injEq] at hstored
  obtain ⟨hlevel, hcount, hprog, hextB, hextC, hextD⟩ := hstored
  refine ⟨fun _ hrun => ?inhibit, ?sleeping, hlevel, hcount, hprog, fun p => ?ext⟩
  case ext =>
    cases p with
    | b => exact hextB
    | c => exact hextC
    | d => exact hextD
  case inhibit =>
    by_cases hbset : ∃ b, i = .bset b
    · obtain ⟨b, rfl⟩ := hbset
      cases h
      show (s.irqInhibit || b == 7) = _
      simp [Bool.beq_eq_decide_eq]
    · by_cases hreti : i = .reti
      · subst hreti
        cases h
        obtain ⟨ret, u, hu⟩ := State.popReturn_of_unhalted hrun
        rw [State.interruptReturn, hu]
        simp
      · have hkept := (irqInhibit_kept s.irqInhibit).of_exec h (fun hi => absurd hi (not_or.mpr ⟨hbset, hreti⟩))
          (fun _ _ _ hs => hs) rfl
        have h7 : ¬ i = .bset 7#3 := fun e => hbset ⟨7, e⟩
        simp [hkept, hreti, h7]
  case sleeping =>
    by_cases hsleep : i = .sleep
    · subst hsleep
      cases h
      simp [State.sleepEnabled]
    · have hkept := (sleeping_kept s.sleeping).of_exec h (fun _ _ _ hs => hs) (fun hi => absurd hi hsleep) rfl
      simp [hkept, hsleep]

end Sys2Proof.Machine
end

section
/-! PROOFS. Costs (R520, R504, R505 70_reset_and_hazards.md): what an instruction charges, what a step charges, and the
bounds of execute. -/
namespace Sys2Proof.Machine
open Claim

/-! ### O13: what an instruction charges -/

/-- A run that has neither halted nor charged anything yet, begun at cycle `n`. -/
def State.uncharged (n : Nat) (s : State) : Prop := s.halted = none ∧ s.cycles = n

/-- From cycle `n`, an instruction ended: completed at one of the costs, or faulted at none. -/
def State.charged (costs : List Nat) (n : Nat) (t : State) : Prop :=
  (t.halted = none ∧ ∃ c ∈ costs, t.cycles = n + c) ∨ (t.halted.isSome = true ∧ t.cycles = n)

namespace State.uncharged

variable {n : Nat} {s : State} {costs : List Nat}

theorem goto (h : s.uncharged n) (target : Word) {cost : Nat} (hc : cost ∈ costs) : (s.goto target cost).charged costs n :=
  .inl ⟨h.1, cost, hc, by rw [State.goto_cycles, h.2]⟩

theorem fall (h : s.uncharged n) (words : Word) {cost : Nat} (hc : cost ∈ costs) : (s.fall words cost).charged costs n :=
  h.goto _ hc

theorem raise (h : s.uncharged n) (f : Fault) : (s.raise f).charged costs n := .inr ⟨rfl, h.2⟩

theorem ends (h : s.uncharged n) {t : State} {cost : Nat} (hc : cost ∈ costs) (hhalted : t.halted = s.halted)
    (hcycles : t.cycles = s.cycles + cost) : t.charged costs n :=
  .inl ⟨hhalted.trans h.1, cost, hc, hcycles.trans (congrArg (· + cost) h.2)⟩

theorem memRead (h : s.uncharged n) (a : Word) {k : Byte → State → State}
    (hk : ∀ v t, State.uncharged n t → (k v t).charged costs n) : (s.memRead a k).charged costs n := by
  unfold State.memRead
  split
  · exact hk _ _ ⟨(State.readAt_halted ..).trans h.1, (State.readAt_cycles ..).trans h.2⟩
  · exact h.raise _

theorem memWrite (h : s.uncharged n) (a : Word) (v : Byte) {k : State → State}
    (hk : ∀ t, State.uncharged n t → (k t).charged costs n) : (s.memWrite a v k).charged costs n := by
  unfold State.memWrite
  split
  · exact hk _ ⟨(State.writeAt_halted ..).trans h.1, (State.writeAt_cycles ..).trans h.2⟩
  · exact h.raise _

theorem progByte (h : s.uncharged n) (b : Word) {k : Byte → State → State}
    (hk : ∀ v t, State.uncharged n t → (k v t).charged costs n) : (s.progByte b k).charged costs n := by
  unfold State.progByte
  split
  · exact hk _ _ h
  · exact h.raise _

theorem push8 (h : s.uncharged n) (v : Byte) {k : State → State}
    (hk : ∀ t, State.uncharged n t → (k t).charged costs n) : (s.push8 v k).charged costs n :=
  h.memWrite _ _ fun _ ht => hk _ ht

theorem pop8 (h : s.uncharged n) {k : Byte → State → State}
    (hk : ∀ v t, State.uncharged n t → (k v t).charged costs n) : (s.pop8 k).charged costs n :=
  h.memRead _ fun _ _ ht => hk _ _ ht

theorem pushReturn (h : s.uncharged n) (ret : Word) {k : State → State}
    (hk : ∀ t, State.uncharged n t → (k t).charged costs n) : (s.pushReturn ret k).charged costs n :=
  h.push8 _ fun _ ht => State.uncharged.push8 ht _ hk

theorem popReturn (h : s.uncharged n) {k : Word → State → State}
    (hk : ∀ v t, State.uncharged n t → (k v t).charged costs n) : (s.popReturn k).charged costs n :=
  h.pop8 fun _ _ ht => State.uncharged.pop8 ht fun _ _ hu => hk _ _ hu

theorem skipIf (h : s.uncharged n) (c : Bool) : (s.skipIf c).charged [1, 2, 3] n := by
  obtain ⟨-, e⟩ | ⟨-, -, e⟩ | ⟨w, -, -, e⟩ := State.skipIf_cases s c
  · rw [e]; exact h.fall _ (by simp)
  · rw [e]; exact h.raise _
  · rw [e]; exact h.goto _ (by unfold wordLength; split <;> simp)

theorem branchIf (h : s.uncharged n) (c : Bool) (k : BitVec 7) : (s.branchIf c k).charged [1, 2] n := by
  unfold State.branchIf
  split
  · exact h.goto _ (by simp)
  · exact h.fall _ (by simp)

theorem interruptEntry (h : s.uncharged n) (v : IrqSource) (cost : Nat) :
    (s.interruptEntry v cost).charged [cost] n :=
  h.pushReturn _ fun t ht => State.uncharged.goto (n := n)
    (s := ((t.setSreg (setBit t.sreg 7 false)).clearIrqFlag v).setSleeping false) (by cases v <;> exact ht) _ (.head _)

end State.uncharged

/-- SBI and CBI write one register and charge afterwards. -/
theorem State.uncharged_ioWriteBit {n : Nat} {s : State} (h : s.uncharged n) (a : Word) (b : BitVec 3) (v : Bool) :
    (s.ioWriteBit a b v).uncharged n := by
  have acts (r : IoReg) : (if v then s.writeIo r (setBit 0 b.toNat true) else s).uncharged n := by
    split
    · exact ⟨(State.writeIo_halted ..).trans h.1, (State.writeIo_cycles ..).trans h.2⟩
    · exact h
  unfold State.ioWriteBit
  split
  · exact acts _
  · exact acts _
  · exact acts _
  · exact ⟨by rw [State.writeAt_halted, State.readAt_halted, h.1],
      by rw [State.writeAt_cycles, State.readAt_cycles, h.2]⟩

/-- Every instruction charges a cost R520 lists for it, or faults. -/
theorem exec_charged (i : Instr) {s : State} {n : Nat} (h : s.uncharged n) :
    ∃ t, exec i s = .next t ∧ t.charged (documentedCosts i) n := by
  cases i with
  | add | adc | sub | subi | sbc | sbci | and | andi | or | ori | eor | com | neg | inc | dec | lsr | ror | asr | cp | cpc
  | cpi | bclr | bst | mov | ldi | swap | bld | movw | nop | wdr | bset | sleep | adiw | sbiw | mul | muls | mulsu | fmul
  | fmuls | fmulsu | rjmp | ijmp | jmp => exact ⟨_, rfl, h.ends (.head _) rfl rfl⟩
  | brbs | brbc => exact ⟨_, rfl, h.branchIf _ _⟩
  | cpse | sbrc | sbrs => exact ⟨_, rfl, h.skipIf _⟩
  | sbic | sbis => exact ⟨_, rfl, h.memRead _ fun _ _ ht => ht.skipIf _⟩
  | rcall | icall | call => exact ⟨_, rfl, h.pushReturn _ fun _ ht => ht.goto _ (.head _)⟩
  | ret => exact ⟨_, rfl, h.popReturn fun _ _ ht => ht.goto _ (.head _)⟩
  | reti => exact ⟨_, rfl, h.popReturn fun _ _ ht => ht.ends (.head _) rfl rfl⟩
  | ldX | lddY | lddZ | lds | inIo | ldXInc | ldXDec | ldYInc | ldYDec | ldZInc | ldZDec =>
    exact ⟨_, rfl, h.memRead _ fun _ _ ht => ht.ends (.head _) rfl rfl⟩
  | stX | stdY | stdZ | sts | outIo | stXInc | stXDec | stYInc | stYDec | stZInc | stZDec =>
    exact ⟨_, rfl, h.memWrite _ _ fun _ ht => ht.ends (.head _) rfl rfl⟩
  | lpmR0 | lpmZ | lpmZInc => exact ⟨_, rfl, h.progByte _ fun _ _ ht => ht.ends (.head _) rfl rfl⟩
  | push => exact ⟨_, rfl, h.push8 _ fun _ ht => ht.fall _ (.head _)⟩
  | pop => exact ⟨_, rfl, h.pop8 fun _ _ ht => ht.ends (.head _) rfl rfl⟩
  | sbi | cbi => exact ⟨_, rfl, (State.uncharged_ioWriteBit h _ _ _).fall _ (.head _)⟩
  | brk => exact ⟨_, rfl, h.raise _⟩

theorem documentedCosts_bounds (i : Instr) : ∀ c ∈ documentedCosts i, 1 ≤ c ∧ c ≤ 4 := by
  cases i <;> simp [documentedCosts]

/-! ### What a step charges -/

theorem step_next (s : State) : ∃ t, step s = .next t := by
  unfold step State.stepOnce State.instructionStep
  split_ifs
  · exact ⟨_, rfl⟩
  · split <;> exact ⟨_, rfl⟩
  · split
    · exact ⟨_, rfl⟩
    · split
      · exact ⟨_, rfl⟩
      next i _ =>
        obtain ⟨t, ht⟩ := exec_next i (s.setIrqInhibit false)
        exact ⟨_, by rw [ht]; rfl⟩

@[simp] theorem State.settle_cycles (s t : State) : (s.settle t).cycles = t.cycles := by
  unfold State.settle
  split <;> simp

theorem State.halted_of_settle {s t : State} (h : (s.settle t).halted = none) : t.halted = none := by
  unfold State.settle at h
  split at h
  next hs => rw [h] at hs; cases hs
  next hs => simpa using hs

/-- A step from cycle `n` that ends at `t`: it charges at most 8 and, if it starts and ends unhalted, at least 1. -/
def State.stepCharged (s t : State) : Prop :=
  s.cycles ≤ t.cycles ∧ t.cycles ≤ s.cycles + 8 ∧ (s.halted = none → t.halted = none → s.cycles < t.cycles)

theorem State.charged.settle {s t : State} {costs : List Nat} (h : t.charged costs s.cycles)
    (hcosts : ∀ c ∈ costs, 1 ≤ c ∧ c ≤ 8) (u : State) : s.stepCharged (u.settle t) := by
  unfold State.stepCharged
  rw [State.settle_cycles]
  obtain ⟨-, c, hc, e⟩ | ⟨hhalted, e⟩ := h
  · have := hcosts c hc
    exact ⟨by omega, by omega, fun _ _ => by omega⟩
  · refine ⟨by omega, by omega, fun _ hrun => ?_⟩
    rw [State.halted_of_settle hrun] at hhalted
    cases hhalted

theorem State.sleepStep_charged (s : State) : s.stepCharged s.sleepStep := by
  have hcycles : s.sleepStep.cycles = s.cycles + 1 := by
    unfold State.sleepStep
    split <;> simp
  exact ⟨by omega, by omega, fun _ _ => by omega⟩

theorem step_charged {s t : State} (h : step s = .next t) : s.stepCharged t := by
  obtain ⟨hh, rfl⟩ | ⟨hh, -, v, -, rfl⟩ | ⟨-, -, -, rfl⟩ | ⟨hh, -, v, -, rfl⟩ | ⟨-, -, -, f, -, rfl⟩ |
    ⟨hh, -, -, i, u, -, hu, rfl⟩ := step_cases h
  · exact ⟨Nat.le_refl _, Nat.le_add_right .., fun hrun _ => by rw [hrun] at hh; cases hh⟩
  · exact (State.uncharged.interruptEntry ⟨hh, rfl⟩ v 8).settle (by simp) s
  · exact s.sleepStep_charged
  · exact (State.uncharged.interruptEntry ⟨hh, rfl⟩ v 4).settle (by simp) s
  · exact ⟨Nat.le_refl _, Nat.le_add_right .., fun _ hrun => by cases hrun⟩
  · obtain ⟨u', hu', hcharged⟩ := exec_charged i (s := s.setIrqInhibit false) (n := s.cycles) ⟨hh, rfl⟩
    rw [hu] at hu'
    cases hu'
    refine hcharged.settle (fun c hc => ?_) s
    have := documentedCosts_bounds i c hc
    omega

/-- Settles O13. -/
theorem stepCostsAreDocumented : Obligations.StepCostsAreDocumented := by
  refine ⟨fun i s t h hh => ?_, fun s => ?_⟩
  · obtain ⟨t', ht', hcharged⟩ := exec_charged i (s := s) (n := s.cycles) ⟨hh, rfl⟩
    rw [h] at ht'
    cases ht'
    obtain ⟨hrun, hcost⟩ | ⟨hhalted, hcycles⟩ := hcharged
    · exact ⟨fun _ => hcost, fun hs => by rw [hrun] at hs; cases hs⟩
    · exact ⟨fun hrun => (by simp [hrun] at hhalted), fun _ => hcycles⟩
  · obtain ⟨t, ht⟩ := step_next s
    exact ⟨t, ht, step_charged ht⟩

/-! ### O14: execute -/

/-- With fuel for the cycles that are still missing, the loop ends past its goal or halted, at most 7 beyond it. -/
theorem executeLoop_ends (fuel c0 n : Nat) (s : State) (hle : s.cycles ≤ c0 + n + 7)
    (hfuel : s.halted = none → c0 + n ≤ s.cycles + fuel) (hstart : c0 ≤ s.cycles) :
    ∃ t, executeLoop fuel c0 n s = .next t ∧ (t.halted = none → c0 + n ≤ t.cycles) ∧ t.cycles ≤ c0 + n + 7 := by
  induction fuel generalizing s with
  | zero => exact ⟨s, rfl, hfuel, hle⟩
  | succ fuel ih =>
    unfold executeLoop
    split_ifs with hgo
    · rw [Bool.and_eq_true, Option.isNone_iff_eq_none, decide_eq_true_iff] at hgo
      obtain ⟨hh, hmissing⟩ := hgo
      obtain ⟨t, ht⟩ := step_next s
      obtain ⟨hge, hmax, hprogress⟩ := step_charged ht
      rw [ht]
      refine ih t (by omega) (fun hrun => ?_) (by omega)
      have := hprogress hh hrun
      have := hfuel hh
      omega
    · refine ⟨s, rfl, fun hrun => ?_, hle⟩
      rw [hrun] at hgo
      simp at hgo
      omega

/-- Settles O14: N steps are fuel enough, since each charges a cycle. -/
theorem executeConsumesCycles : Obligations.ExecuteConsumesCycles := by
  intro n s
  obtain ⟨t, ht, hruns, hmax⟩ := executeLoop_ends n s.cycles n s (by omega) (fun _ => Nat.le_refl _) (Nat.le_refl _)
  refine ⟨t, ht, fun h0 => ?_, hruns, hmax⟩
  subst h0
  cases ht
  rfl

end Sys2Proof.Machine
end

section
/-! PROOFS. The step (R402, R403, R422, R423, R471, R502): which of its forms a state takes. -/
namespace Sys2Proof.Machine
open Claim

/-! ### The source that is entered -/

theorem State.firstPending_none {s : State} (h : ∀ v, s.pending v = false) : s.firstPending = none :=
  List.find?_eq_none.mpr fun v _ => by simp [h v]

theorem mem_irqSources (v : IrqSource) : v ∈ irqSources := by cases v <;> decide

/-- The list of the sources is in the order of their vector numbers. -/
theorem irqSources_sorted : irqSources.Pairwise fun u v => u.vector < v.vector := by decide

theorem State.firstPending_of_entersNext {s : State} {v : IrqSource} (h : entersNext s v) : s.firstPending = some v := by
  obtain ⟨hv, hleast⟩ := h
  cases hu : s.firstPending with
  | none => exact absurd hv (by simpa using List.find?_eq_none.mp hu v (mem_irqSources v))
  | some u =>
    obtain ⟨hpu, before, after, hsplit, hbefore⟩ := List.find?_eq_some_iff_append.mp hu
    have hmem := mem_irqSources v
    rw [hsplit, List.mem_append, List.mem_cons] at hmem
    obtain hin | rfl | hin := hmem
    · exact absurd hv (by simpa using hbefore v hin)
    · rfl
    · have hsorted := irqSources_sorted
      rw [hsplit, List.pairwise_append, List.pairwise_cons] at hsorted
      obtain ⟨-, ⟨hlt, -⟩, -⟩ := hsorted
      have := hlt v hin
      have := hleast u hpu
      omega

theorem State.dueSource_of_noneDue {s : State} (h : noneDue s) : s.dueSource = none := by
  obtain hi | hinhibit | hnone := h
  · exact State.dueSource_of_iFlag_clear hi
  · simp [State.dueSource, hinhibit]
  · simp [State.dueSource, State.firstPending_none hnone]

/-! ### The forms of a step -/

theorem step_of_halted {s : State} (h : s.halted.isSome = true) : step s = .next s := by
  rw [step, State.stepOnce, if_pos h]

theorem step_of_due {s : State} {v : IrqSource} (hh : s.halted = none) (hs : s.sleeping = false)
    (hdue : s.dueSource = some v) : step s = .next (s.settle (s.interruptEntry v 4)) := by
  simp [step, State.stepOnce, hh, hs, hdue, Config.intEntryCycles]

theorem step_of_wake {s : State} {v : IrqSource} (hh : s.halted = none) (hs : s.sleeping = true)
    (hwake : s.wakeSource = some v) : step s = .next (s.settle (s.interruptEntry v 8)) := by
  simp [step, State.stepOnce, hh, hs, hwake, Config.intEntryCycles, Config.wakeExtraCycles]

theorem step_of_asleep {s : State} (hh : s.halted = none) (hs : s.sleeping = true) (hwake : s.wakeSource = none) :
    step s = .next s.sleepStep := by
  simp [step, State.stepOnce, hh, hs, hwake]

theorem State.settle_of_halted {s t : State} (h : t.halted.isSome = true) : s.settle t = t := if_pos h

theorem State.settle_of_running {s t : State} (h : t.halted = none) : s.settle t = t.advance (t.cycles - s.cycles) := by
  rw [State.settle, h]
  rfl

/-- An awake, unhalted block with no interrupt due: the fetch decides. -/
theorem step_of_stop {s : State} (hh : s.halted = none) (hs : s.sleeping = false) (hdue : noneDue s) {f : Fault}
    (hf : (s.setIrqInhibit false).fetch = .stop f) : step s = .next ((s.setIrqInhibit false).raise f) := by
  rw [step_eq_instructionStep hh hs (State.dueSource_of_noneDue hdue), State.instructionStep, hf]

theorem step_of_instr {s : State} (hh : s.halted = none) (hs : s.sleeping = false) (hdue : noneDue s) {i : Instr}
    (hi : (s.setIrqInhibit false).fetch = .instr i) : step s = s.settled (exec i (s.setIrqInhibit false)) := by
  rw [step_eq_instructionStep hh hs (State.dueSource_of_noneDue hdue), State.instructionStep, hi]

/-! ### O6, O7, O8 -/

/-- Settles O6. -/
theorem stepRunsDecodedInstruction : Obligations.StepRunsDecodedInstruction := by
  intro s w w2 i hh hs hdue hw hw2 hdec
  obtain ⟨t, ht⟩ := exec_next i (s.setIrqInhibit false)
  have hfetch : (s.setIrqInhibit false).fetch = .instr i := State.fetch_of_decode hw hw2 hdec
  exact ⟨t, ht, by rw [step_of_instr hh hs hdue hfetch, ht]; rfl⟩

theorem execute_of_halted {s : State} (h : s.halted.isSome = true) (n : Nat) : execute n s = .next s := by
  have hn : s.halted.isNone = false := by rw [← Option.not_isSome, h]; rfl
  cases n with
  | zero => rfl
  | succ n => rw [execute, executeLoop, hn]; rfl

/-- Settles O7. -/
theorem haltedUntilReset : Obligations.HaltedUntilReset :=
  fun _ n _ _ _ h => ⟨step_of_halted h, execute_of_halted h n, State.setPort_halted .., rfl⟩

theorem State.progWord_none {s : State} {w : Word} (h : Config.pmWords ≤ w.toNat) : s.progWord w = none :=
  if_neg (Nat.not_lt.mpr h)

/-- Program memory ends below word 0xFFFF, so the word after one inside it is the next one. -/
theorem State.progWord_succ_none {s : State} {w v : Word} (hw : s.progWord w = some v)
    (h : Config.pmWords ≤ w.toNat + 1) : s.progWord (w + 1) = none := by
  have hin : w.toNat < 16384 := by
    by_contra hout
    rw [State.progWord_none (Nat.le_of_not_lt hout)] at hw
    cases hw
  have hnext : (w + 1).toNat = w.toNat + 1 := by bv_omega
  exact State.progWord_none (hnext ▸ h)

theorem State.decodeAt_error {s : State} {w w2 : Word} (h : ∀ i, decode w w2 ≠ .ok i) :
    s.decodeAt w w2 = .stop (.decodeError s.pc w) := by
  unfold State.decodeAt
  split
  next i hi => exact absurd hi (h i)
  next => rfl

section
variable {s : State} {w : Word}

theorem State.fetch_first_none (h : s.progWord s.pc = none) : s.fetch = .stop (.fetchOutOfRange s.pc) := by
  rw [State.fetch, h]

theorem State.fetch_second_none (hw : s.progWord s.pc = some w) (htwo : isTwoWord w = true)
    (h : s.progWord (s.pc + 1) = none) : s.fetch = .stop (.fetchOutOfRange (s.pc + 1)) := by
  rw [State.fetch, hw]
  dsimp only
  rw [if_pos htwo, h]

theorem State.fetch_undecodable {w2 : Word} (hw : s.progWord s.pc = some w)
    (hw2 : isTwoWord w = true → s.progWord (s.pc + 1) = some w2) (hdec : ∀ i, decode w w2 ≠ .ok i) :
    s.fetch = .stop (.decodeError s.pc w) := by
  rw [State.fetch, hw]
  dsimp only
  cases htwo : isTwoWord w with
  | true => rw [if_pos rfl, hw2 htwo]; exact State.decodeAt_error hdec
  | false => exact State.decodeAt_error fun i => decode_one_word htwo w2 ▸ hdec i

end

/-- Settles O8: the three ways a fetch stops. -/
theorem fetchAndDecodeFaultsHalt : Obligations.FetchAndDecodeFaultsHalt :=
  fun s _ _ hh hs hdue =>
    ⟨fun hpc => step_of_stop hh hs hdue (State.fetch_first_none (s := s.setIrqInhibit false) (State.progWord_none hpc)),
      fun hw htwo hpc => step_of_stop hh hs hdue
        (State.fetch_second_none (s := s.setIrqInhibit false) hw htwo (State.progWord_succ_none hw hpc)),
      fun hw hw2 hdec => step_of_stop hh hs hdue
        (State.fetch_undecodable (s := s.setIrqInhibit false) hw hw2 hdec)⟩

/-! ### O11: asleep -/

theorem State.idle_iff (s : State) : s.idle = true ↔ s.smcr.extractLsb' 1 3 = 0 := beq_iff_eq

/-- Settles O11. -/
theorem sleepStepChargesOneCycle : Obligations.SleepStepChargesOneCycle := by
  intro s hh hs
  refine ⟨fun hmode => ?other, fun hmode hquiet => ?idle⟩
  case other =>
    have hidle : s.idle = false := by rw [Bool.eq_false_iff, ne_eq, State.idle_iff]; exact hmode
    have hwake : s.wakeSource = none := by simp [State.wakeSource, hidle]
    rw [step_of_asleep hh hs hwake, State.sleepStep, hidle]
    rfl
  case idle =>
    have hidle := s.idle_iff.mpr hmode
    have hwake : s.wakeSource = none := by
      obtain hi | hnone := hquiet
      · have hi' : s.iFlag = false := hi
        simp [State.wakeSource, hi']
      · simp [State.wakeSource, State.firstPending_none hnone]
    have hcycles : (s.charge 1).cycles - s.cycles = 1 := by rw [State.charge_cycles]; omega
    rw [step_of_asleep hh hs hwake, State.sleepStep, if_pos hidle, State.settle_of_running (t := s.charge 1) hh, hcycles]
    rfl

end Sys2Proof.Machine
end

section
/-! PROOFS. What peripheral time leaves alone (R443, R454, R482 60_exceptions.md). -/
namespace Sys2Proof.Machine
open Claim

/-- From `p` to `q` a port keeps its directions and every PORT bit but those of the pins listed that are outputs. -/
def Port.keepsBut (pins : List Nat) (p q : Port) : Prop :=
  q.ddr = p.ddr ∧ ∀ j, j < 8 → (j ∉ pins ∨ p.ddr.getLsbD j = false) → q.port.getLsbD j = p.port.getLsbD j

theorem Port.keepsBut_refl (pins : List Nat) (p : Port) : p.keepsBut pins p := ⟨rfl, fun _ _ _ => rfl⟩

/-- The actions of a tick write its two compare outputs. -/
theorem Port.keepsBut_tickPins {n : Nat} {p q : Port} {i k : Fin 8} (hik : i ≠ k) {pins : List Nat} (hi : i.val ∈ pins)
    (hk : k.val ∈ pins) (t : Timer n) (m : WaveMode n) (icr : BitVec n) (h : p.keepsBut pins q) :
    p.keepsBut pins (q.tickPins i k t m icr) := by
  obtain ⟨hddr, hbits⟩ := h
  refine ⟨by simp only [Port.tickPins, Port.act_ddr, hddr], fun j hj hout => ?_⟩
  rw [Port.tickPins_port_bit q hik t m icr hj, hddr, ← hbits j hj hout]
  obtain hnot | hinput := hout
  · have hji : j ≠ i.val := fun e => hnot (e ▸ hi)
    have hjk : j ≠ k.val := fun e => hnot (e ▸ hk)
    rw [if_neg hji, if_neg hjk, ite_self]
  · rw [if_pos hinput]

/-- Both ports with compare outputs keep every other bit. -/
def State.portsKept (s t : State) : Prop := s.portB.keepsBut [1, 2] t.portB ∧ s.portD.keepsBut [5, 6] t.portD

theorem State.advance_portsKept (s : State) (k : Nat) : s.portsKept (s.advance k) := by
  refine State.advance_keeps (P := s.portsKept) (State.advanceCycle_keeps (fun h => h) (fun _ h => h) ?clock0 ?clock1) k
    ⟨Port.keepsBut_refl _ _, Port.keepsBut_refl _ _⟩
  case clock0 =>
    intro u l ⟨hb, hd⟩
    obtain ⟨-, e⟩ | ⟨-, -, e⟩ | ⟨-, -, e⟩ := State.clock0_cases u l
    · rw [e]; exact ⟨hb, hd⟩
    · rw [e]; exact ⟨hb, hd⟩
    · rw [e]; exact ⟨hb, Port.keepsBut_tickPins (by decide) (by decide) (by decide) _ _ _ hd⟩
  case clock1 =>
    intro u l ⟨hb, hd⟩
    obtain ⟨-, e⟩ | ⟨-, -, e⟩ | ⟨-, -, e⟩ := State.clock1_cases u l
    · rw [e]; exact ⟨hb, hd⟩
    · rw [e]; exact ⟨hb, hd⟩
    · rw [e]; exact ⟨Port.keepsBut_tickPins (by decide) (by decide) (by decide) _ _ _ hb, hd⟩

/-- Settles O20: the fields by the frame laws of `advance`, the PORT bits by `State.advance_portsKept`. -/
theorem peripheralTimeFrame : Obligations.PeripheralTimeFrame := by
  intro s k
  obtain ⟨⟨hddrB, hbitsB⟩, hddrD, hbitsD⟩ := s.advance_portsKept k
  exact ⟨s.advance_regs k, s.advance_pc k, s.advance_sreg k, s.advance_sp k, s.advance_cycles k, s.advance_smcr k,
    s.advance_temp1 k, s.advance_mem k, s.advance_prog k, s.advance_irqInhibit k, s.advance_sleeping k,
    s.advance_portC k, s.advance_portOf_ext k .b, s.advance_portOf_ext k .d, hddrB, hddrD, hbitsB, hbitsD⟩

end Sys2Proof.Machine
end

section
/-! PROOFS. Loads and stores by pointer (R304 to R323 42_data_transfer.md) and the skips (R262, R272, R276 to R279
41_branch.md). -/
namespace Sys2Proof.Machine
open Claim

/-! ### O38 and O39: loads -/

theorem loadsUpdating_loadUpdate (s : State) {d : BitVec 5} {a : Word} (h : dataValid a = true) (p : Ptr) (p' : Word)
    (hd : d ∉ [p.low, p.low + 1]) : loadsUpdating d a p p' s (s.loadUpdate d a p p' 2) := by
  rw [State.loadUpdate_valid s d h]
  obtain ⟨hregs, hsreg, hram, hrest, hpc, hcycles⟩ :=
    frame_setReg_setPtr_fall (s.readAt a).2 d (s.readAt a).1 p p' 1 2
  exact ⟨(State.setPtr_reg_of_notMem _ p p' hd).trans (State.setReg_reg_same ..), State.setPtr_ptr _ p p',
    fun q hq => (hregs q hq).trans (s.readAt_reg a q), hsreg.trans (s.readAt_sreg a),
    fun b => (hram b).trans (s.readAt_ram a b), hrest, s.readAt_pc a ▸ hpc, s.readAt_cycles a ▸ hcycles⟩

/-- Settles O38: each is a load at its effective address. -/
theorem loadsWithoutUpdate : Obligations.LoadsWithoutUpdate := fun s d _ _ =>
  ⟨fun h => ⟨rfl, _, rfl, loads_loadByte s d h 1 2⟩, fun h => ⟨rfl, _, rfl, loads_loadByte s d h 1 2⟩,
    fun h => ⟨rfl, _, rfl, loads_loadByte s d h 1 2⟩, fun h => ⟨rfl, _, rfl, loads_loadByte s d h 2 2⟩⟩

/-- Settles O39: each is a load that then writes its pointer. -/
theorem loadsWithUpdate : Obligations.LoadsWithUpdate := fun s _ =>
  ⟨fun hd h => ⟨rfl, _, rfl, loadsUpdating_loadUpdate s h .x _ hd⟩,
    fun hd h => ⟨rfl, _, rfl, loadsUpdating_loadUpdate s h .x _ hd⟩,
    fun hd h => ⟨rfl, _, rfl, loadsUpdating_loadUpdate s h .y _ hd⟩,
    fun hd h => ⟨rfl, _, rfl, loadsUpdating_loadUpdate s h .y _ hd⟩,
    fun hd h => ⟨rfl, _, rfl, loadsUpdating_loadUpdate s h .z _ hd⟩,
    fun hd h => ⟨rfl, _, rfl, loadsUpdating_loadUpdate s h .z _ hd⟩⟩

/-! ### O40 and O41: stores -/

/-- A store that then writes its pointer, by what stands at the address. -/
theorem stores_storeUpdate (s : State) {a : Word} (h : storable s a) (v : Byte) (p : Ptr) (p' : Word) :
    (s.storeUpdate a v p p' 2).ptr p = p' ∧ stores a v [p.low, p.low + 1] 1 2 s (s.storeUpdate a v p p' 2) := by
  obtain ⟨hvalid, hmem⟩ := h
  rw [State.storeUpdate_valid s hvalid]
  have hregs (t : State) : regsKept [p.low, p.low + 1] t (t.setPtr p p') := t.setPair_regsKept p.low p'
  refine ⟨State.setPtr_ptr _ p p', fun b hb => s.writeAt_ram_ne hb v,
    ⟨congrArg (· + 1) (s.writeAt_pc a v), congrArg (· + 2) (s.writeAt_cycles a v)⟩, ?_⟩
  cases hroute : route a with
  | cell =>
    rw [State.writeAt_cell s hroute]
    exact ⟨s.setRam_ram_same hmem a v, hregs (s.setRam a v), rfl, restKept_fall ((s.setRam a v).setPtr p p') 1 2⟩
  | register d =>
    rw [State.writeAt_register s hroute]
    refine ⟨fun hd => ((hregs (s.setReg d v)) d hd).trans (s.setReg_reg_same d v), fun q hq => ?_, fun _ => rfl, rfl,
      restKept_fall ((s.setReg d v).setPtr p p') 1 2⟩
    rw [List.mem_cons, not_or] at hq
    obtain ⟨hqd, hqp⟩ := hq
    exact (hregs (s.setReg d v) q hqp).trans (s.setReg_regsKept d v q (by simpa using hqd))
  | io r =>
    rw [State.writeAt_io s hroute]
    exact ⟨fun q hq => (hregs (s.writeIo r v) q hq).trans (s.writeIo_reg r v q), s.writeIo_ram r v, rfl,
      restKept_fall ((s.writeIo r v).setPtr p p') 1 2⟩

/-- Settles O40: each is a store at its effective address. -/
theorem storesWithoutUpdate : Obligations.StoresWithoutUpdate := fun s r _ _ =>
  ⟨fun h => ⟨rfl, _, rfl, stores_storeByte s h (s.reg r) 1 2⟩, fun h => ⟨rfl, _, rfl, stores_storeByte s h (s.reg r) 1 2⟩,
    fun h => ⟨rfl, _, rfl, stores_storeByte s h (s.reg r) 1 2⟩,
    fun h => ⟨rfl, _, rfl, stores_storeByte s h (s.reg r) 2 2⟩⟩

/-- Settles O41: each is a store that then writes its pointer. -/
theorem storesWithUpdate : Obligations.StoresWithUpdate := fun s r =>
  ⟨fun _ h => ⟨rfl, _, rfl, stores_storeUpdate s h (s.reg r) .x _⟩,
    fun _ h => ⟨rfl, _, rfl, stores_storeUpdate s h (s.reg r) .x _⟩,
    fun _ h => ⟨rfl, _, rfl, stores_storeUpdate s h (s.reg r) .y _⟩,
    fun _ h => ⟨rfl, _, rfl, stores_storeUpdate s h (s.reg r) .y _⟩,
    fun _ h => ⟨rfl, _, rfl, stores_storeUpdate s h (s.reg r) .z _⟩,
    fun _ h => ⟨rfl, _, rfl, stores_storeUpdate s h (s.reg r) .z _⟩⟩

/-! ### O36: skips -/

/-- A skip after a read that moved neither pc nor the cycle counter nor program memory. -/
theorem skips_skipIf (c : Bool) {s u : State} (hpc : u.pc = s.pc) (hcycles : u.cycles = s.cycles)
    (hprog : u.prog = s.prog) : skips c s u (u.skipIf c) := by
  have hword : u.progWord (u.pc + 1) = s.progWord (s.pc + 1) := by
    rw [hpc, State.progWord, State.progWord, State.flash, State.flash, State.flash, State.flash, hprog]
  cases c with
  | false =>
    exact ⟨fun _ => ⟨⟨congrArg (· + 1) hpc, congrArg (· + 1) hcycles⟩, allKept_goto ..⟩, fun h => by cases h⟩
  | true =>
    refine ⟨fun h => (by cases h), ?_⟩
    rw [← hword, ← hpc, ← hcycles]
    cases hw : u.progWord (u.pc + 1) with
    | none => exact fun _ => State.skipNext_none u hw
    | some w =>
      have hskip : u.skipIf true = _ := State.skipNext_word u hw
      rw [hskip, wordLength]
      refine fun _ => ⟨?_, ?_, allKept_goto ..⟩
      · rw [State.goto_pc]; split <;> rfl
      · rw [State.goto_cycles]; split <;> rfl

theorem skips_memRead (s : State) {a : Word} (ha : dataValid a = true) (c : Byte → Bool) :
    skips (c (s.readAt a).1) s (s.readAt a).2 (s.memRead a fun v t => t.skipIf (c v)) := by
  rw [State.memRead_valid s ha]
  exact skips_skipIf _ (s.readAt_pc a) (s.readAt_cycles a) (s.readAt_prog a)

/-- Of the registers at the I/O addresses 0..31 only PINx has a side effect when read. -/
theorem State.readAt_low (s : State) (a : BitVec 5) : (s.readAt (ioAddrLow a)).2 = s ∨
    ((∃ p, ioRegAt (ioAddrLow a) = some (.pin p)) ∧ (s.readAt (ioAddrLow a)).2 = { s with draws := s.draws + 8 }) := by
  cases hio : ioRegAt (ioAddrLow a) with
  | none =>
    have hcell : route (ioAddrLow a) = .cell := by
      rw [route, if_neg (by have := ioAddrLow_ge a; omega), hio]
    exact .inl (by rw [State.readAt_cell s hcell])
  | some r =>
    rw [State.readAt_io s (route_io (ioAddrLow_ge a) hio)]
    have hr := ioRegAt_ioAddrLow hio
    cases r with
    | pin p => exact .inr ⟨⟨p, rfl⟩, rfl⟩
    | ddr p | port p | tifr0 | tifr1 => exact .inl rfl
    | _ => simp [IoReg.actsOnOnes, IoReg.isPortByte] at hr

/-- Settles O36: all five end as `State.skipIf` does, SBIC and SBIS after a read that always has an address. -/
theorem skips : Obligations.Skips := by
  intro s d r a b
  rw [← ioAddrLow_eq_ofNat]
  have hvalid := dataValid_ioAddrLow a
  exact ⟨⟨rfl, _, rfl, skips_skipIf _ rfl rfl rfl⟩, ⟨rfl, _, rfl, skips_skipIf _ rfl rfl rfl⟩,
    ⟨rfl, _, rfl, skips_skipIf _ rfl rfl rfl⟩, s.readAt_low a,
    ⟨rfl, _, rfl, skips_memRead s hvalid fun v => !v.getLsbD b.toNat⟩,
    ⟨rfl, _, rfl, skips_memRead s hvalid fun v => v.getLsbD b.toNat⟩⟩

end Sys2Proof.Machine
end

section
/-! PROOFS. The stack (R266 to R271 41_branch.md, R329 and R330 42_data_transfer.md): calls, returns, PUSH and POP wherever
it lies. -/
namespace Sys2Proof.Machine
open Claim

/-! ### What a store does to SP -/

theorem mem_ioTable {a : Word} {r : IoReg} (h : ioRegAt a = some r) : (a, r) ∈ ioTable := by
  obtain ⟨before, after, hsplit, -⟩ := List.lookup_eq_some_iff.mp h
  rw [hsplit]
  exact List.mem_append_right _ (.head _)

/-- SPL and SPH stand at one address each. -/
theorem ioTable_stackPointer : ∀ e ∈ ioTable, (e.2 = .spl → e.1 = 0x5D) ∧ (e.2 = .sph → e.1 = 0x5E) := by decide

theorem State.writeIo_sp (s : State) {r : IoReg} (hl : r ≠ .spl) (hh : r ≠ .sph) (v : Byte) :
    (s.writeIo r v).sp = s.sp := by
  cases r with
  | spl => exact absurd rfl hl
  | sph => exact absurd rfl hh
  | pin p | ddr p | port p => exact State.setPort_sp ..
  | tccr0b | tccr1c => simp [State.writeIo, State.force0, State.force1]
  | _ => rfl

theorem State.writeAt_sp (s : State) {a : Word} (hl : a ≠ 0x5D) (hh : a ≠ 0x5E) (v : Byte) :
    (s.writeAt a v).sp = s.sp := by
  unfold State.writeAt
  split
  · rfl
  next r hroute =>
    have hio : ioRegAt a = some r := by
      unfold route at hroute
      split at hroute
      · cases hroute
      · split at hroute
        next hr => cases hroute; exact hr
        · cases hroute
    obtain ⟨hspl, hsph⟩ := ioTable_stackPointer _ (mem_ioTable hio)
    exact s.writeIo_sp (fun e => hl (hspl e)) (fun e => hh (hsph e)) v
  · rfl

/-! ### Pushes and pops at addresses that exist -/

theorem State.push8_valid (s : State) (v : Byte) (k : State → State) (h : dataValid s.sp = true) :
    s.push8 v k = k ((s.writeAt s.sp v).setSp ((s.writeAt s.sp v).sp - 1)) := State.memWrite_valid s h v _

theorem State.pop8_valid (s : State) (k : Byte → State → State) (h : dataValid (s.sp + 1) = true) :
    s.pop8 k = k (s.readAt (s.sp + 1)).1 ((s.readAt (s.sp + 1)).2.setSp (s.sp + 1)) := State.memRead_valid s h _

theorem lowByte_eq_setWidth (w : Word) : lowByte w = w.setWidth 8 := by
  apply BitVec.eq_of_toNat_eq
  simp

theorem State.pushReturn_valid {s : State} (h : pushesTwice s) (ret : Word) (k : State → State) :
    s.pushReturn ret k = k (afterPushes ret s) := by
  obtain ⟨hlo, hhi, hl, hh⟩ := h
  have hvalid : dataValid s.sp = true := (dataValid_iff _).mpr hhi
  have hvalid' : dataValid (s.sp - 1) = true := by rw [dataValid_iff]; bv_omega
  rw [State.pushReturn, State.push8_valid s _ _ hvalid, State.writeAt_sp s hl hh, lowByte_eq_setWidth]
  exact State.push8_valid _ _ _ hvalid'

theorem State.popReturn_valid {s : State} (h : (s.sp + 1).toNat ≤ 0x08FE) (k : Word → State → State) :
    s.popReturn k = k (afterPops s).1 (afterPops s).2 := by
  have hvalid : dataValid (s.sp + 1) = true := by rw [dataValid_iff]; omega
  have hsucc : s.sp + 1 + 1 = s.sp + 2 := by rw [BitVec.add_assoc]; rfl
  have hvalid' : dataValid (s.sp + 1 + 1) = true := by rw [dataValid_iff]; bv_omega
  rw [State.popReturn, State.pop8_valid s _ hvalid]
  refine (State.pop8_valid ((s.readAt (s.sp + 1)).2.setSp (s.sp + 1)) _ hvalid').trans ?_
  rw [State.setSp_sp, hsucc]
  rfl

/-- A read changes the draw counter and TEMP1 at most. -/
theorem State.readAt_eq (s : State) (a : Word) :
    (s.readAt a).2 = { s with draws := (s.readAt a).2.draws, temp1 := (s.readAt a).2.temp1 } := by
  unfold State.readAt
  split
  · rfl
  next r _ => cases r <;> rfl
  · rfl

theorem afterPops_eq (s : State) :
    (afterPops s).2 = { s with sp := s.sp + 2, draws := (afterPops s).2.draws, temp1 := (afterPops s).2.temp1 } := by
  unfold afterPops
  dsimp only
  rw [State.readAt_eq ((s.readAt (s.sp + 1)).2.setSp (s.sp + 1)), State.readAt_eq s (s.sp + 1)]
  rfl

/-! ### The two pushes in plain bytes and in the registers -/

theorem sub_one_sub_one (a : Word) : a - 1 - 1 = a - 2 := by bv_omega

/-- In plain bytes the two pushes change data memory and SP. -/
theorem State.pushReturn_plain {s : State} (h : pushable s) (ret : Word) (k : State → State) :
    ∃ mem, s.pushReturn ret k = k { s with mem := mem, sp := s.sp - 2 } ∧
      pushed ret s { s with mem := mem, sp := s.sp - 2 } := by
  obtain ⟨hv, hv', hc, hc', hwf⟩ := h
  have hne : s.sp ≠ s.sp - 1 := by bv_omega
  refine ⟨_, (State.pushReturn_cell s ret k hv hv' hc hc').trans (by rw [sub_one_sub_one]; rfl), ?_, ?_, ?_, rfl⟩
  · have hlow : (((s.setRam s.sp (lowByte ret)).setSp (s.sp - 1)).setRam (s.sp - 1) (highByte ret)).ram s.sp =
        lowByte ret := (State.setRam_ram_ne _ hne _).trans (s.setRam_ram_same hwf _ _)
    refine (congrArg BitVec.toNat hlow).trans ?_
    simp
  · have hhigh : (((s.setRam s.sp (lowByte ret)).setSp (s.sp - 1)).setRam (s.sp - 1) (highByte ret)).ram (s.sp - 1) =
        highByte ret := State.setRam_ram_same _ (Memory.write_wf hwf _ _) _ _
    refine (congrArg BitVec.toNat hhigh).trans ?_
    simp [Nat.shiftRight_eq_div_pow]
    have := ret.isLt
    omega
  · intro a ha ha'
    exact (State.setRam_ram_ne _ ha' _).trans (s.setRam_ram_ne ha _)

/-- The two registers a push of `ret` writes. -/
def pushedInRegisters (ret : Word) (s t : State) : Prop :=
  let lo : BitVec 5 := BitVec.ofNat 5 s.sp.toNat
  (t.reg lo).toNat = ret.toNat % 256 ∧ (t.reg (lo - 1)).toNat = ret.toNat / 256 ∧ regsKept [lo, lo - 1] s t

theorem toNat_highByte (w : Word) : (highByte w).toNat = w.toNat / 256 := by
  rw [BitVec.extractLsb'_toNat, Nat.shiftRight_eq_div_pow]
  have := w.isLt
  omega

/-- In the general registers the two pushes change those registers and SP. -/
theorem afterPushes_registers {s : State} (hlo : 1 ≤ s.sp.toNat) (hhi : s.sp.toNat ≤ 31) (ret : Word) :
    ∃ regs, afterPushes ret s = { s with regs := regs, sp := s.sp - 2 } ∧
      pushedInRegisters ret s { s with regs := regs, sp := s.sp - 2 } := by
  have hsp : (s.sp - 1).toNat = s.sp.toNat - 1 := by bv_omega
  have hlower : BitVec.ofNat 5 (s.sp - 1).toNat = BitVec.ofNat 5 s.sp.toNat - 1 := by
    apply BitVec.eq_of_toNat_eq
    rw [hsp, BitVec.toNat_sub, BitVec.toNat_ofNat, BitVec.toNat_ofNat]
    change _ = (2 ^ 5 - 1 + _) % 2 ^ 5
    omega
  have hpush : afterPushes ret s = (((s.setReg (BitVec.ofNat 5 s.sp.toNat) (ret.setWidth 8)).setSp (s.sp - 1)).setReg
      (BitVec.ofNat 5 s.sp.toNat - 1) (highByte ret)).setSp (s.sp - 2) := by
    unfold afterPushes
    rw [State.writeAt_register s (route_register hhi), State.writeAt_register _ (route_register (by omega)), hlower,
      ← sub_one_sub_one]
    rfl
  have hreg (q : BitVec 5) : (afterPushes ret s).reg q = if q = BitVec.ofNat 5 s.sp.toNat - 1 then highByte ret
      else if q = BitVec.ofNat 5 s.sp.toNat then ret.setWidth 8 else s.reg q := by
    rw [hpush, State.setSp_reg, State.setReg_reg, State.setSp_reg, State.setReg_reg]
  have hne : BitVec.ofNat 5 s.sp.toNat ≠ BitVec.ofNat 5 s.sp.toNat - 1 := by bv_omega
  refine ⟨(afterPushes ret s).regs, hpush.trans (by rw [hpush]; rfl), ?_, ?_, fun q hq => ?_⟩
  · refine (congrArg BitVec.toNat ((hreg _).trans ((if_neg hne).trans (if_pos rfl)))).trans ?_
    rw [BitVec.toNat_setWidth]
  · exact (congrArg BitVec.toNat ((hreg _).trans (if_pos rfl))).trans (toNat_highByte ret)
  · simp only [List.mem_cons, List.not_mem_nil, or_false, not_or] at hq
    obtain ⟨hlow, hhigh⟩ := hq
    exact (hreg q).trans ((if_neg hhigh).trans (if_neg hlow))

/-! ### O33 and O34: calls and returns with the stack in plain bytes -/

theorem calls_pushReturn {s : State} (h : pushable s) (ret target : Word) (cost : Nat) :
    Claim.calls ret target cost s (s.pushReturn ret fun t => t.goto target cost) := by
  obtain ⟨mem, hpush, hpushed⟩ := State.pushReturn_plain h ret fun t => t.goto target cost
  rw [hpush]
  exact ⟨hpushed, rfl, rfl, fun _ _ => rfl, rfl,
    ⟨rfl, rfl, rfl, rfl, rfl, rfl, rfl, rfl, rfl, rfl, rfl, rfl, rfl, rfl, rfl, rfl⟩⟩

theorem flags_of_setI {s t : State} {b : Bool} (h : t.sreg = setBit s.sreg 7 b) :
    t.flag bitI = b ∧ flagsKept [bitI] s t := by
  unfold flagsKept State.flag
  rw [h]
  refine ⟨by rw [getLsbD_setBit_of_lt _ _ (by decide)]; rfl, fun i hi hne => ?_⟩
  rw [getLsbD_setBit_of_lt _ _ hi, if_neg (by simpa using hne)]

theorem restKept_goto (s : State) (target : Word) (cost : Nat) : restKept s (s.goto target cost) := by
  simp [restKept]

theorem State.popReturn_plain {s : State} (h : poppable s) (k : Word → State → State) :
    s.popReturn k = k (s.ram (s.sp + 1) ++ s.ram (s.sp + 2)) (s.setSp (s.sp + 2)) := by
  obtain ⟨hv, hv', hc, hc'⟩ := h
  have hsucc : s.sp + 1 + 1 = s.sp + 2 := by bv_omega
  rw [← hsucc] at hv' hc' ⊢
  exact State.popReturn_cell s k hv hv' hc hc'

theorem toNat_append_bytes (hi lo : Byte) : (hi ++ lo : Word).toNat = 256 * hi.toNat + lo.toNat := by
  rw [BitVec.toNat_append, ← Nat.shiftLeft_add_eq_or_of_lt lo.isLt, Nat.shiftLeft_eq, Nat.mul_comm]

/-- The end of RETI: that of RET, with SREG.I and irqInhibit set. -/
theorem reti_end (s : State) (u : State) (ret : Word) (hsreg : u.sreg = s.sreg) :
    let t := ((u.setSreg (setBit u.sreg 7 true)).setIrqInhibit true).goto ret 4
    t.flag bitI = true ∧ flagsKept [bitI] s t ∧ restKept (u.setIrqInhibit true) t := by
  intro t
  obtain ⟨hI, hkept⟩ := flags_of_setI (s := s) (t := t) (b := true) (hsreg ▸ rfl)
  exact ⟨hI, hkept, restKept_goto ((u.setSreg (setBit u.sreg 7 true)).setIrqInhibit true) ret 4⟩

section
variable {s u : State} {ret : Word} (h : ∀ k : Word → State → State, s.popReturn k = k ret u)
include h

theorem exec_ret_of_pop : exec .ret s = .next (u.goto ret 4) := congrArg Host.Outcome.next (h _)

theorem exec_reti_of_pop :
    exec .reti s = .next (((u.setSreg (setBit u.sreg 7 true)).setIrqInhibit true).goto ret 4) :=
  congrArg Host.Outcome.next (h _)

end

theorem popped_goto {s t : State} (hpc : t.pc = s.ram (s.sp + 1) ++ s.ram (s.sp + 2)) (hsp : t.sp = s.sp + 2)
    (hcycles : t.cycles = s.cycles + 4) (hregs : t.regs = s.regs) (hmem : t.mem = s.mem) : popped s t := by
  refine ⟨(congrArg BitVec.toNat hpc).trans (toNat_append_bytes ..), hsp, hcycles, fun q _ => ?_, fun a => ?_⟩
  · rw [State.reg, hregs, State.reg]
  · rw [State.ram, hmem, State.ram]

/-- Settles O34. -/
theorem returns : Obligations.Returns := by
  intro s h
  have hpop := State.popReturn_plain h
  obtain ⟨hI, hflags, hrest⟩ := reti_end s (s.setSp (s.sp + 2)) (s.ram (s.sp + 1) ++ s.ram (s.sp + 2)) rfl
  exact ⟨⟨rfl, _, exec_ret_of_pop hpop, popped_goto rfl rfl rfl rfl rfl, rfl, restKept_goto ..⟩,
    rfl, _, exec_reti_of_pop hpop, popped_goto rfl rfl rfl rfl rfl, hI, hflags, hrest⟩

/-! ### O35: the stack in the registers and at I/O addresses -/

theorem pushesTwice_of_registers {s : State} (hlo : 1 ≤ s.sp.toNat) (hhi : s.sp.toNat ≤ 31) : pushesTwice s :=
  ⟨hlo, by omega, fun e => by rw [e] at hhi; revert hhi; decide, fun e => by rw [e] at hhi; revert hhi; decide⟩

theorem afterPushes_cycles (ret : Word) (s : State) : (afterPushes ret s).cycles = s.cycles := by
  unfold afterPushes
  simp

theorem afterPushes_halted (ret : Word) (s : State) : (afterPushes ret s).halted = s.halted := by
  unfold afterPushes
  simp

/-- A call with the stack in the general registers. -/
theorem callsInRegisters_pushReturn {s : State} (hlo : 1 ≤ s.sp.toNat) (hhi : s.sp.toNat ≤ 31) (ret target : Word)
    (cost : Nat) : callsInRegisters ret target cost s (s.pushReturn ret fun t => t.goto target cost) := by
  obtain ⟨regs, hpush, hlow, hhigh, hkept⟩ := afterPushes_registers hlo hhi ret
  rw [State.pushReturn_valid (pushesTwice_of_registers hlo hhi), hpush]
  exact ⟨hlow, hhigh, hkept, rfl, rfl, rfl, fun _ => rfl,
    ⟨rfl, rfl, rfl, rfl, rfl, rfl, rfl, rfl, rfl, rfl, rfl, rfl, rfl, rfl, rfl, rfl⟩⟩

/-- A call with the stack at any address where both pushes exist and the first does not move SP. -/
theorem call_pushReturn {s : State} (h : pushesTwice s) (ret target : Word) (cost : Nat) :
    s.pushReturn ret (fun t => t.goto target cost) =
      { afterPushes ret s with pc := target, cycles := s.cycles + cost } := by
  rw [State.pushReturn_valid h, ← afterPushes_cycles ret s]
  rfl

/-- A return reads the address from the two registers above SP. -/
theorem afterPops_registers {s : State} (h : (s.sp + 1).toNat ≤ 30) :
    let hi : BitVec 5 := BitVec.ofNat 5 (s.sp + 1).toNat
    afterPops s = (s.reg hi ++ s.reg (hi + 1), s.setSp (s.sp + 2)) := by
  intro hi
  have hsucc : (s.sp + 2).toNat = (s.sp + 1).toNat + 1 := by bv_omega
  have hnext : BitVec.ofNat 5 (s.sp + 2).toNat = hi + 1 := by
    rw [hsucc, BitVec.ofNat_add]
    rfl
  unfold afterPops
  dsimp only
  rw [State.readAt_register s (route_register (by omega)), State.readAt_register _ (route_register (by omega)), hnext]
  rfl

theorem poppedFromRegisters_of {s t : State} (h : (s.sp + 1).toNat ≤ 30) (hpc : t.pc = (afterPops s).1)
    (hcycles : t.cycles = s.cycles + 4) (hregs : t.regs = s.regs) (hmem : t.mem = s.mem) : poppedFromRegisters s t := by
  rw [afterPops_registers h] at hpc
  refine ⟨(congrArg BitVec.toNat hpc).trans (toNat_append_bytes ..), hcycles, fun q _ => ?_, fun a => ?_⟩
  · rw [State.reg, hregs, State.reg]
  · rw [State.ram, hmem, State.ram]

theorem reti_end_but_sreg (u : State) (sreg : Byte) (ret : Word) :
    { ((u.setSreg sreg).setIrqInhibit true).goto ret 4 with sreg := u.sreg } =
      { u with pc := ret, cycles := u.cycles + 4, irqInhibit := true } := rfl

/-- Settles O35: by `State.pushReturn_valid` and `State.popReturn_valid` wherever the stack lies, and what these are in the
general registers. -/
theorem stackOutsidePlainBytes : Obligations.StackOutsidePlainBytes := by
  intro s k l
  rw [← s.relTarget_signExtend k, ← longTarget_eq_ofNat]
  refine ⟨fun hlo hhi => ⟨⟨_, rfl, callsInRegisters_pushReturn hlo hhi _ _ 3⟩,
      ⟨_, rfl, callsInRegisters_pushReturn hlo hhi _ _ 3⟩, fun _ => ⟨_, rfl, callsInRegisters_pushReturn hlo hhi _ _ 4⟩⟩,
    fun h => ?returnsInRegisters, fun h => ⟨congrArg Host.Outcome.next (call_pushReturn h _ _ 3),
      congrArg Host.Outcome.next (call_pushReturn h _ _ 3), fun _ => congrArg Host.Outcome.next (call_pushReturn h _ _ 4),
      fun ret => afterPushes_halted ret s⟩, fun h => ?returnsAnywhere⟩
  case returnsInRegisters =>
    have hpop := State.popReturn_valid (s := s) (by omega)
    have hu : (afterPops s).2 = s.setSp (s.sp + 2) := congrArg Prod.snd (afterPops_registers h)
    rw [hu] at hpop
    obtain ⟨hI, hflags, hrest⟩ := reti_end s (s.setSp (s.sp + 2)) (afterPops s).1 rfl
    exact ⟨⟨_, exec_ret_of_pop hpop, poppedFromRegisters_of h rfl rfl rfl rfl, rfl, restKept_goto ..⟩,
      _, exec_reti_of_pop hpop, poppedFromRegisters_of h rfl rfl rfl rfl, hI, hflags, hrest⟩
  case returnsAnywhere =>
    have hpop := State.popReturn_valid (s := s) h
    have hu := afterPops_eq s
    have hsreg : (afterPops s).2.sreg = s.sreg := by rw [hu]
    have hcycles : (afterPops s).2.cycles = s.cycles := by rw [hu]
    obtain ⟨hI, hflags, -⟩ := reti_end s (afterPops s).2 (afterPops s).1 hsreg
    refine ⟨?_, ⟨_, exec_reti_of_pop hpop, hI, hflags, ?_⟩, hu⟩
    · rw [exec_ret_of_pop hpop, ← hcycles]
      rfl
    · rw [← hcycles, ← hsreg]
      exact reti_end_but_sreg ..

/-! ### O44: PUSH and POP -/

theorem exec_push {s : State} (h : dataValid s.sp = true) (r : BitVec 5) : exec (.push r) s =
    .next (((s.writeAt s.sp (s.reg r)).setSp ((s.writeAt s.sp (s.reg r)).sp - 1)).fall 1 2) :=
  congrArg Host.Outcome.next (s.push8_valid _ _ h)

theorem exec_pop {s : State} (h : dataValid (s.sp + 1) = true) (d : BitVec 5) : exec (.pop d) s =
    .next ((((s.readAt (s.sp + 1)).2.setSp (s.sp + 1)).setReg d (s.readAt (s.sp + 1)).1).fall 1 2) :=
  congrArg Host.Outcome.next (s.pop8_valid _ h)

/-- Settles O44: a store at SP and a load at SP + 1, by what stands there. -/
theorem pushAndPop : Obligations.PushAndPop := by
  intro s d r
  refine ⟨fun ⟨hvalid, hwf⟩ => ⟨rfl, _, exec_push hvalid r, ⟨?pc, ?cycles⟩, fun b hb => s.writeAt_ram_ne hb _, ?stored⟩,
    fun hvalid => ⟨rfl, _, exec_pop hvalid d, State.setReg_reg_same .., fun q hq => ?_, s.readAt_sreg _, s.readAt_ram _,
      restKept_fall _ 1 2, congrArg (· + 1) (s.readAt_pc _), congrArg (· + 2) (s.readAt_cycles _)⟩⟩
  case pc => exact congrArg (· + 1) (s.writeAt_pc _ _)
  case cycles => exact congrArg (· + 2) (s.writeAt_cycles _ _)
  case stored =>
    cases hroute : route s.sp with
    | cell =>
      rw [State.writeAt_cell s hroute]
      exact ⟨s.setRam_ram_same hwf _ _, fun _ _ => rfl, rfl, restKept_fall ((s.setRam _ _).setSp _) 1 2⟩
    | register q =>
      rw [State.writeAt_register s hroute]
      exact ⟨s.setReg_reg_same q _, s.setReg_regsKept q _, fun _ => rfl, rfl, restKept_fall ((s.setReg q _).setSp _) 1 2⟩
    | io x =>
      rw [State.writeAt_io s hroute]
      exact ⟨fun q _ => s.writeIo_reg x _ q, s.writeIo_ram x _, rfl, restKept_fall ((s.writeIo x _).setSp _) 1 2⟩
  · exact (State.setReg_regsKept _ d _ q hq).trans (s.readAt_reg _ q)

/-! ### O33: calls with the stack in plain bytes -/

/-- Settles O33. -/
theorem calls : Obligations.Calls := by
  intro s k l h
  rw [← s.relTarget_signExtend k, ← longTarget_eq_ofNat]
  exact ⟨⟨rfl, _, rfl, calls_pushReturn h _ _ 3⟩, ⟨rfl, _, rfl, calls_pushReturn h _ _ 3⟩,
    fun _ => ⟨rfl, _, rfl, calls_pushReturn h _ _ 4⟩⟩

end Sys2Proof.Machine
end

section
/-! PROOFS. Faulting accesses (R110 20_memory.md, R300 42_data_transfer.md) and taking an interrupt (R422 to R424, R471
60_exceptions.md). -/
namespace Sys2Proof.Machine
open Claim

/-! ### O45: accesses beyond the data space -/

theorem dataValid_false {a : Word} (h : 0x08FF < a.toNat) : dataValid a = false := by
  rw [Bool.eq_false_iff, ne_eq, dataValid_iff]
  omega

/-- At SP = 0 the low byte of the return address goes to R0 and the second push has no address. -/
theorem State.pushReturn_zero {s : State} (h : s.sp = 0) (ret : Word) (k : State → State) :
    s.pushReturn ret k = secondPushFault ret s := by
  have hvalid : dataValid s.sp = true := by rw [h]; rfl
  have hwrite : s.writeAt s.sp (lowByte ret) = s.setReg 0 (lowByte ret) := by
    rw [h]
    exact State.writeAt_register s (route_register (by decide)) _
  have hsp : s.sp - 1 = 0xFFFF := by rw [h]; rfl
  rw [State.pushReturn, State.push8_valid s _ _ hvalid, hwrite, State.setReg_sp, hsp, lowByte_eq_setWidth]
  exact State.push8_invalid _ _ _ rfl

/-- At SP = 0x08FE the first pop reads the last byte of SRAM and the second one has no address. -/
theorem State.popReturn_end {s : State} (h : s.sp = 0x08FE) (k : Word → State → State) :
    s.popReturn k = (s.setSp 0x08FF).raise (.dataAddressOutOfRange 0x0900) := by
  have hsp : s.sp + 1 = 0x08FF := by rw [h]; rfl
  have hroute : route (s.sp + 1) = .cell := by rw [hsp]; exact route_plain (.inl (by decide))
  rw [State.popReturn, State.pop8_cell s _ (by rw [hsp]; rfl) hroute, hsp]
  exact State.pop8_invalid _ _ rfl

theorem State.pushReturn_invalid {s : State} (h : dataValid s.sp = false) (ret : Word) (k : State → State) :
    s.pushReturn ret k = s.raise (.dataAddressOutOfRange s.sp) := s.push8_invalid _ _ h

theorem State.popReturn_invalid {s : State} (h : dataValid (s.sp + 1) = false) (k : Word → State → State) :
    s.popReturn k = s.raise (.dataAddressOutOfRange (s.sp + 1)) := s.pop8_invalid _ h

/-- Settles O45: an access without an address raises before anything else is done. -/
theorem dataAddressFaults : Obligations.DataAddressFaults := by
  intro s d q k o l x y z halts
  have load {a : Word} (ha : 0x08FF < a.toNat) (k : Byte → State → State) :
      (Host.Outcome.next (s.memRead a k) : Out State) = .next (s.raise (.dataAddressOutOfRange a)) :=
    congrArg _ (s.memRead_invalid (dataValid_false ha) k)
  have store {a : Word} (ha : 0x08FF < a.toNat) (v : Byte) (k : State → State) :
      (Host.Outcome.next (s.memWrite a v k) : Out State) = .next (s.raise (.dataAddressOutOfRange a)) :=
    congrArg _ (s.memWrite_invalid (dataValid_false ha) v k)
  have two {a : Word} {i j : Instr} (h : 0x08FF < a.toNat → exec i s = .next (s.raise (.dataAddressOutOfRange a)) ∧
      exec j s = .next (s.raise (.dataAddressOutOfRange a))) : halts a [i, j] := by
    intro ha
    simpa using ⟨fun _ => (h ha).1, fun _ => (h ha).2⟩
  refine ⟨fun ha => ?_, two fun ha => ⟨load ha _, store ha _ _⟩, fun ha => ?_, two fun ha => ⟨load ha _, store ha _ _⟩,
    fun ha => ?_, two fun ha => ⟨load ha _, store ha _ _⟩, two fun ha => ⟨load ha _, store ha _ _⟩,
    two fun ha => ⟨load ha _, store ha _ _⟩, two fun ha => ⟨load ha _, store ha _ _⟩, fun ha => ?_, fun ha => ?_,
    fun h => ?_, fun h => ?_⟩
  · simpa using ⟨fun _ => load ha _, fun _ => store ha _ _, fun _ => load ha _, fun _ => store ha _ _⟩
  · simpa using ⟨fun _ => load ha _, fun _ => store ha _ _⟩
  · simpa using ⟨fun _ => load ha _, fun _ => store ha _ _⟩
  · have call (ret : Word) (k : State → State) :
        (Host.Outcome.next (s.pushReturn ret k) : Out State) = .next (s.raise (.dataAddressOutOfRange s.sp)) :=
      congrArg _ (State.pushReturn_invalid (dataValid_false ha) ret k)
    simpa using ⟨fun _ => store ha _ _, fun _ => call _ _, fun _ => call _ _, fun _ => call _ _⟩
  · have ret (k : Word → State → State) : (Host.Outcome.next (s.popReturn k) : Out State) =
        .next (s.raise (.dataAddressOutOfRange (s.sp + 1))) :=
      congrArg _ (State.popReturn_invalid (dataValid_false ha) k)
    simpa using ⟨fun _ => load ha _, fun _ => ret _, fun _ => ret _⟩
  · simpa using ⟨congrArg _ (State.popReturn_end h _), congrArg _ (State.popReturn_end h _)⟩
  · exact ⟨congrArg _ (State.pushReturn_zero h _ _), congrArg _ (State.pushReturn_zero h _ _),
      fun _ => congrArg _ (State.pushReturn_zero h _ _)⟩

/-! ### O9: what an entry saves, clears and sets -/

/-- The end of an entry of source `v`, once pc is saved in `u` (R424). -/
def State.enter (u : State) (v : IrqSource) (cost : Nat) : State :=
  (((u.setSreg (setBit u.sreg 7 false)).clearIrqFlag v).setSleeping false).goto (vectorAddress v.vector) cost

theorem State.interruptEntry_eq (s : State) (v : IrqSource) (cost : Nat) :
    s.interruptEntry v cost = s.pushReturn s.pc fun t => t.enter v cost := rfl

/-- Every bit of both flag registers after the clear of a source's flag. -/
theorem State.clearIrqFlag_tifrOf_bit (s : State) (v : IrqSource) (id : TimerId) {j : Nat} (hj : j < 8) :
    ((s.clearIrqFlag v).tifrOf id).getLsbD j =
      if v.timer = id ∧ j = v.bit then false else (s.tifrOf id).getLsbD j := by
  unfold State.clearIrqFlag
  cases hv : v.timer with
  | t0 =>
    cases id with
    | t0 => exact (getLsbD_setBit_of_lt _ _ hj false).trans (by simp [State.tifrOf])
    | t1 => rfl
  | t1 =>
    cases id with
    | t0 => rfl
    | t1 => exact (getLsbD_setBit_of_lt _ _ hj false).trans (by simp [State.tifrOf])

theorem IrqSource.bit_lt (v : IrqSource) : v.bit < 8 := by cases v <;> decide

/-- A source is its timer and its flag bit. -/
theorem IrqSource.eq_of_timer_of_bit {u v : IrqSource} (ht : v.timer = u.timer) (hb : u.bit = v.bit) : u = v := by
  have table : ∀ u ∈ irqSources, ∀ v ∈ irqSources, v.timer = u.timer → u.bit = v.bit → u = v := by decide
  exact table u (mem_irqSources u) v (mem_irqSources v) ht hb

theorem State.clearIrqFlag_timskOf (s : State) (v : IrqSource) (id : TimerId) :
    (s.clearIrqFlag v).timskOf id = s.timskOf id := by
  cases v <;> cases id <;> rfl

theorem State.clearIrqFlag_pending (s : State) {u v : IrqSource} (h : u ≠ v) :
    (s.clearIrqFlag v).pending u = s.pending u := by
  rw [State.pending, State.clearIrqFlag_tifrOf_bit s v u.timer u.bit_lt, State.clearIrqFlag_timskOf,
    if_neg fun e => h (IrqSource.eq_of_timer_of_bit e.1 e.2)]
  rfl

theorem vectorAddress_toNat (v : IrqSource) : (vectorAddress v.vector).toNat = 2 * (v.vector - 1) := by
  cases v <;> rfl

/-- What the end of an entry from `u` leaves at `t`. -/
structure Entered (v : IrqSource) (cost : Nat) (u t : State) : Prop where
  pc : t.pc.toNat = 2 * (v.vector - 1)
  iClear : t.flag bitI = false
  flags : flagsKept [bitI] u t
  cleared : t.pending v = false
  others : ∀ w, w ≠ v → t.pending w = u.pending w
  sleeping : t.sleeping = false
  cycles : t.cycles = u.cycles + cost
  regs : t.regs = u.regs
  mem : t.mem = u.mem
  rest : restKept { u with sleeping := false, timer0 := { u.timer0 with tifr := t.timer0.tifr },
                           timer1 := { u.timer1 with tifr := t.timer1.tifr } } t
  tifr0 : ∀ j, j < 8 → ¬ (v.timer = .t0 ∧ j = v.bit) → t.timer0.tifr.getLsbD j = u.timer0.tifr.getLsbD j
  tifr1 : ∀ j, j < 8 → ¬ (v.timer = .t1 ∧ j = v.bit) → t.timer1.tifr.getLsbD j = u.timer1.tifr.getLsbD j

theorem State.clearIrqFlag_eq (s : State) (v : IrqSource) : s.clearIrqFlag v =
    { s with
      timer0 := { s.timer0 with tifr := (s.clearIrqFlag v).timer0.tifr }
      timer1 := { s.timer1 with tifr := (s.clearIrqFlag v).timer1.tifr } } := by
  cases v <;> rfl

theorem enter_entered (u : State) (v : IrqSource) (cost : Nat) : Entered v cost u (u.enter v cost) := by
  have hclear := State.clearIrqFlag_eq (u.setSreg (setBit u.sreg 7 false)) v
  have hsreg : (u.enter v cost).sreg = setBit u.sreg 7 false := by cases v <;> rfl
  obtain ⟨hI, hflags⟩ := flags_of_setI (s := u) hsreg
  exact {
    pc := vectorAddress_toNat v
    iClear := hI
    flags := hflags
    cleared := State.clearIrqFlag_not_pending (u.setSreg (setBit u.sreg 7 false)) v
    others := fun w hw => State.clearIrqFlag_pending (u.setSreg (setBit u.sreg 7 false)) hw
    sleeping := rfl
    cycles := by cases v <;> rfl
    regs := by cases v <;> rfl
    mem := by cases v <;> rfl
    rest := by cases v <;> exact ⟨rfl, rfl, rfl, rfl, rfl, rfl, rfl, rfl, rfl, rfl, rfl, rfl, rfl, rfl, rfl, rfl⟩
    tifr0 := fun j hj hne => (State.clearIrqFlag_tifrOf_bit _ v .t0 hj).trans (if_neg hne)
    tifr1 := fun j hj hne => (State.clearIrqFlag_tifrOf_bit _ v .t1 hj).trans (if_neg hne) }

theorem regsKept_of_regs {s t : State} (h : t.regs = s.regs) : regsKept [] s t :=
  fun q _ => by rw [State.reg, h, State.reg]

theorem ramKept_of_mem {s t : State} (h : t.mem = s.mem) : ramKept s t :=
  fun a => by rw [State.ram, h, State.ram]

/-- Settles O9: the two pushes by where the stack lies, then `enter_entered`. -/
theorem interruptEntryEffect : Obligations.InterruptEntryEffect := by
  intro s v cost
  refine ⟨fun h => ?plain, fun hlo hhi => ?registers, fun h => ?anywhere⟩
  case plain =>
    obtain ⟨mem, hpush, hlow, hhigh, hram, hsp⟩ := State.pushReturn_plain h s.pc fun t => t.enter v cost
    have e := enter_entered { s with mem := mem, sp := s.sp - 2 } v cost
    have hmem := ramKept_of_mem e.mem
    have hsp' := e.rest.1
    exact ⟨_, hpush, ⟨(congrArg _ (hmem s.sp)).trans hlow, (congrArg _ (hmem (s.sp - 1))).trans hhigh,
      fun a ha ha' => (hmem a).trans (hram a ha ha'), hsp'⟩, e.pc, e.iClear, e.flags, e.cleared, e.others, e.sleeping,
      e.cycles, regsKept_of_regs e.regs, e.rest, e.tifr0, e.tifr1⟩
  case registers =>
    obtain ⟨regs, hpush, hlow, hhigh, hkept⟩ := afterPushes_registers hlo hhi s.pc
    have e := enter_entered { s with regs := regs, sp := s.sp - 2 } v cost
    have hregs := regsKept_of_regs e.regs
    have hentry := State.pushReturn_valid (pushesTwice_of_registers hlo hhi) s.pc fun t => t.enter v cost
    rw [hpush] at hentry
    exact ⟨_, hentry, (congrArg _ (hregs _ List.not_mem_nil)).trans hlow,
      (congrArg _ (hregs _ List.not_mem_nil)).trans hhigh,
      fun q hq => (hregs q List.not_mem_nil).trans (hkept q hq), e.pc, e.iClear, e.flags, e.cleared, e.others, e.cycles,
      ramKept_of_mem e.mem, e.rest⟩
  case anywhere =>
    have e := enter_entered (afterPushes s.pc s) v cost
    have hhalted : (((afterPushes s.pc s).enter v cost)).halted = s.halted := by
      rw [← afterPushes_halted s.pc s]
      cases v <;> rfl
    exact ⟨_, State.pushReturn_valid h s.pc fun t => t.enter v cost, e.pc, e.iClear, e.flags, e.cleared, e.others,
      e.cycles.trans (by rw [afterPushes_cycles]), hhalted, regsKept_of_regs e.regs, e.mem, e.rest⟩

/-! ### O10: the entry at the start of a step -/

/-- An entry whose pushes complete charges its cost, so the peripherals advance by it. -/
theorem State.settle_interruptEntry {s : State} (hh : s.halted = none) (h : pushesTwice s) (v : IrqSource) (cost : Nat) :
    s.settle (s.interruptEntry v cost) = (s.interruptEntry v cost).advance cost := by
  have hentry : s.interruptEntry v cost = _ := State.pushReturn_valid h s.pc fun t => t.enter v cost
  have hcycles : (s.interruptEntry v cost).cycles - s.cycles = cost := by
    rw [hentry, (enter_entered (afterPushes s.pc s) v cost).cycles, afterPushes_cycles]
    omega
  have hrun : (s.interruptEntry v cost).halted = none := by
    rw [hentry, ← hh, ← afterPushes_halted s.pc s]
    cases v <;> rfl
  rw [State.settle_of_running hrun, hcycles]

/-- Settles O10. -/
theorem interruptTakenAtStepStart : Obligations.InterruptTakenAtStepStart := by
  intro s v hh hI hnext
  have hi : s.iFlag = true := hI
  have hfirst := State.firstPending_of_entersNext hnext
  have hdue (hinhibit : s.irqInhibit = false) : s.dueSource = some v := by
    simp [State.dueSource, hi, hinhibit, hfirst]
  have hwake (hmode : s.smcr.extractLsb' 1 3 = 0) : s.wakeSource = some v := by
    simp [State.wakeSource, s.idle_iff.mpr hmode, hi, hfirst]
  have entered (henters : s.sleeping = false ∧ s.irqInhibit = false ∨ s.sleeping = true ∧ s.smcr.extractLsb' 1 3 = 0) :
      ∃ cost, step s = .next (s.settle (s.interruptEntry v cost)) := by
    obtain ⟨hs, hinhibit⟩ | ⟨hs, hmode⟩ := henters
    · exact ⟨4, step_of_due hh hs (hdue hinhibit)⟩
    · exact ⟨8, step_of_wake hh hs (hwake hmode)⟩
  refine ⟨fun hs hinhibit hpush => ?_, fun hs hmode hpush => ?_, fun henters => ⟨fun hinvalid => ?_, fun hzero => ?_⟩⟩
  · rw [step_of_due hh hs (hdue hinhibit), State.settle_interruptEntry hh hpush]
  · rw [step_of_wake hh hs (hwake hmode), State.settle_interruptEntry hh hpush]
  · obtain ⟨cost, hstep⟩ := entered henters
    rw [hstep, State.interruptEntry_eq, State.pushReturn_invalid hinvalid, State.settle_of_halted rfl]
  · obtain ⟨cost, hstep⟩ := entered henters
    rw [hstep, State.interruptEntry_eq, State.pushReturn_zero hzero, State.settle_of_halted rfl]

end Sys2Proof.Machine
end

section
/-! PROOFS. The block-owned registers, pin levels, the capture unit and when a timer ticks (R113, R114 20_memory.md; R441
to R443, R455, R462, R481, R483 60_exceptions.md). -/
namespace Sys2Proof.Machine
open Claim

/-! ### O48: the table of the block-owned registers -/

theorem State.writeAt_tccr1b (s : State) (v : Byte) : s.writeAt 0x81 v = { s with timer1 := { s.timer1 with
    tccrB := v &&& maskTccr1b
    psc := if v.extractLsb' 0 3 = s.timer1.tccrB.extractLsb' 0 3 then s.timer1.psc else 0 } } := by
  have hroute : route 0x81 = .io .tccr1b := by decide
  have hcs : (v &&& maskTccr1b).extractLsb' 0 3 = v.extractLsb' 0 3 := by
    rw [BitVec.extractLsb'_and]
    exact BitVec.and_allOnes
  rw [State.writeAt_io s hroute, State.writeIo, Timer.writeTccrB, hcs]
  rfl

theorem State.writeAt_ocr0a (s : State) (v : Byte) : s.writeAt 0x47 v = { s with timer0 := { s.timer0 with
    ocrABuf := v, ocrAAct := if s.timer0.mode0.isPwm then s.timer0.ocrAAct else v } } := rfl

theorem State.writeAt_ocr0b (s : State) (v : Byte) : s.writeAt 0x48 v = { s with timer0 := { s.timer0 with
    ocrBBuf := v, ocrBAct := if s.timer0.mode0.isPwm then s.timer0.ocrBAct else v } } := rfl

/-- Settles O48: the rows of the table as they stand; the writes that depend on CS or on the mode are lemmas. -/
theorem ioRegisterTable : Obligations.IoRegisterTable := by
  intro s v
  refine ⟨rfl, rfl, rfl, rfl, rfl, rfl, rfl, rfl, rfl, rfl, rfl, rfl, rfl, rfl, rfl, rfl, rfl, rfl, rfl, rfl, rfl, rfl,
    rfl, rfl, rfl, rfl, rfl, rfl, rfl, rfl, rfl, rfl, rfl, rfl, ?_, rfl, fun h => ?_, fun h => ?_, rfl, rfl, rfl, rfl,
    rfl, rfl, rfl, s.writeAt_tccr1b v⟩
  · rw [State.writeAt_tccr0b_timer0, Timer.writeTccrB_maskTccr0b]
    rfl
  · rw [State.writeAt_ocr0a, State.writeAt_ocr0b, h]
    exact ⟨rfl, rfl⟩
  · rw [State.writeAt_ocr0a, State.writeAt_ocr0b, h]
    exact ⟨rfl, rfl⟩

/-! ### O50: pin levels -/

theorem Port.level_of_output {p : Port} {n : Fin 8} (h : p.ddr.getLsbD n = true) :
    p.level n = some (Level.ofBit (p.port.getLsbD n)) := by
  rw [Port.level, if_pos h]

theorem Port.level_of_input {p : Port} {n : Fin 8} (h : p.ddr.getLsbD n = false) : p.level n =
    match p.ext.get n with
    | some l => some l
    | none => if p.port.getLsbD n then some .high else none := by
  rw [Port.level, h]
  rfl

theorem Port.pinByte_bit (p : Port) (k : Nat) (n : Fin 8) : (p.pinByte k).getLsbD n = p.pinBit n k := by
  refine (packSreg_bit ..).trans ?_
  fin_cases n <;> rfl

theorem Level.ofBit_eq_high (b : Bool) : (Level.ofBit b == .high) = b := by cases b <;> rfl

theorem Port.pinBit_eq (p : Port) (n : Fin 8) (k : Nat) : p.pinBit n k =
    match p.level n with
    | some l => decide (l = .high)
    | none => Config.freeLevel (k + n) := by
  unfold Port.pinBit Port.drawnLevel
  cases p.level n with
  | some l => rfl
  | none => exact Level.ofBit_eq_high _

/-- A pin whose level is known reads as that level. -/
theorem Port.pinByte_bit_of_level {p : Port} {n : Fin 8} {l : Level} (h : p.level n = some l) (k : Nat) :
    (p.pinByte k).getLsbD n = decide (l = .high) := by
  rw [Port.pinByte_bit, Port.pinBit_eq, h]

theorem State.readIo_pin (s : State) (p : PortId) :
    s.readIo (.pin p) = ((s.portOf p).pinByte s.draws, { s with draws := s.draws + 8 }) := rfl

/-- Where every pin is an output, PIN reads PORT. -/
theorem Port.pinByte_of_outputs {p : Port} (h : p.ddr = 0xFF) (k : Nat) : p.pinByte k = p.port := by
  apply BitVec.eq_of_getLsbD_eq
  intro j hj
  have hout : p.ddr.getLsbD j = true := by
    rw [h]
    exact (by decide : ∀ j, j < 8 → (0xFF : Byte).getLsbD j = true) j hj
  have hbit := Port.pinByte_bit_of_level (Port.level_of_output (n := ⟨j, hj⟩) hout) k
  rw [hbit]
  cases p.port.getLsbD j <;> rfl

/-- A port with the level of one pin injected (R485). -/
def Port.injected (p : Port) (n : Fin 8) (l : Option Level) : Port := { p with ext := p.ext.set n l }

theorem Port.injected_get (p : Port) (n : Fin 8) (l : Option Level) : (p.injected n l).ext.get n = l := by
  rw [Port.injected, Vector.get_eq_getElem]
  exact Vector.getElem_set_self _

theorem State.inject_portOf (s : State) (p : PortId) (n : Fin 8) (l : Option Level) :
    (s.inject p n l).portOf p = (s.portOf p).injected n l := State.setPort_portOf_same ..

/-- Settles O50. -/
theorem pinLevelsAndReadAfterWrite : Obligations.PinLevelsAndReadAfterWrite := by
  intro s p n v l
  refine ⟨Port.level_of_output, Port.level_of_input, (Port.pinByte_bit ..).trans (Port.pinBit_eq ..), rfl,
    fun hout => ?_, fun hin => ?_⟩
  · have hport : (s.writeIo (.port p) v).portOf p = { s.portOf p with port := v } := State.setPort_portOf_same ..
    refine ⟨congrArg Port.port hport, ?_⟩
    rw [State.readIo_pin, hport]
    exact Port.pinByte_of_outputs (p := { s.portOf p with port := v }) hout _
  · have hport := State.inject_portOf s p n (some l)
    have hlevel : ((s.inject p n (some l)).portOf p).level n = some l := by
      rw [hport, Port.level_of_input (p := (s.portOf p).injected n (some l)) hin, Port.injected_get]
    refine ⟨Port.pinByte_bit_of_level hlevel _, ?_⟩
    rw [State.readIo, hport]
    rfl

/-! ### O57: the capture unit -/

/-- A sample that gives no edge. -/
theorem State.inputCapture_of_no_edge {s : State} {l : Level} (h : s.icpEdge l = false) : s.inputCapture l = { s with
    icpLevel := if s.icpLevel.isNone then some l else s.icpLevel
    icpCount := if s.icpDiffers l then s.icpCount + 1 else 0 } := by
  simp only [State.inputCapture, State.captures, h, Bool.or_false, Bool.false_and, Bool.not_false, Bool.and_true]
  rfl

/-- A sample that gives an edge. -/
theorem State.inputCapture_of_edge {s : State} {l : Level} (h : s.icpEdge l = true) : s.inputCapture l = { s with
    icpLevel := some l
    icpCount := 0
    icr1 := if s.captures l then s.timer1.count else s.icr1
    timer1 := s.timer1.raiseFlag icfBit (s.captures l) } := by
  simp only [State.inputCapture, h, Bool.or_true, if_true, Bool.not_true, Bool.and_false, Bool.false_eq_true, if_false]

theorem State.icpDiffers_of_level {s : State} {m : Level} (h : s.icpLevel = some m) (l : Level) :
    s.icpDiffers l = decide (m ≠ l) := by
  rw [State.icpDiffers, h]
  cases m <;> cases l <;> rfl

theorem State.isNone_of_level {s : State} {m : Level} (h : s.icpLevel = some m) : s.icpLevel.isNone = false := by
  rw [h]
  rfl

/-- Settles O57. -/
theorem inputCapture : Obligations.InputCapture := by
  intro s l m hrole
  refine ⟨fun hlevel => ?first, fun hlevel => ?same, fun hlevel hne hnow => ?edge, fun hlevel hne hcancel hcount => ?waits⟩
  case first =>
    have hdiffers : s.icpDiffers l = false := by rw [State.icpDiffers, hlevel]; rfl
    have hedge : s.icpEdge l = false := by rw [State.icpEdge, hdiffers, Bool.false_and]
    rw [State.inputCapture_of_no_edge hedge, hdiffers, hlevel]
    rfl
  case same =>
    have hdiffers : s.icpDiffers l = false := by rw [State.icpDiffers_of_level hlevel]; simp
    have hedge : s.icpEdge l = false := by rw [State.icpEdge, hdiffers, Bool.false_and]
    rw [State.inputCapture_of_no_edge hedge, hdiffers, State.isNone_of_level hlevel]
    rfl
  case edge =>
    have hdiffers : s.icpDiffers l = true := by rw [State.icpDiffers_of_level hlevel]; simpa using hne
    have hedge : s.icpEdge l = true := by
      rw [State.icpEdge, hdiffers, Bool.true_and, Bool.or_eq_true, Bool.not_eq_true', decide_eq_true_iff]
      exact hnow.imp_right fun h => by omega
    have hcaptures : s.captures l = decide (s.timer1.tccrB.getLsbD 6 = decide (l = .high)) := by
      rw [State.captures, hedge, hrole, Bool.true_and, Bool.and_true]
      rfl
    by_cases hselected : s.timer1.tccrB.getLsbD 6 = decide (l = .high)
    · rw [State.inputCapture_of_edge hedge, if_pos hselected, hcaptures, decide_eq_true hselected]
      rfl
    · rw [State.inputCapture_of_edge hedge, if_neg hselected, hcaptures, decide_eq_false hselected]
      rfl
  case waits =>
    have hdiffers : s.icpDiffers l = true := by rw [State.icpDiffers_of_level hlevel]; simpa using hne
    have hedge : s.icpEdge l = false := by
      rw [State.icpEdge, hdiffers, hcancel, Bool.true_and, Bool.not_true, Bool.false_or, decide_eq_false_iff_not]
      omega
    rw [State.inputCapture_of_no_edge hedge, hdiffers, State.isNone_of_level hlevel]
    rfl

/-! ### O58: when a timer ticks -/

theorem ticksWhenDue_holds {n : Nat} (t : Timer n) (l : Level) : ticksWhenDue t l := by
  unfold ticksWhenDue Timer.tickDue
  refine ⟨fun h0 => if_pos h0, fun hlo hhi => ?_, fun h6 => ?_, fun h7 => ?_⟩
  · have h0 : t.cs ≠ 0 := fun e => by rw [e] at hlo; revert hlo; decide
    have h6 : t.cs ≠ 6 := fun e => by rw [e] at hhi; revert hhi; decide
    have h7 : t.cs ≠ 7 := fun e => by rw [e] at hhi; revert hhi; decide
    rw [if_neg h0, if_neg h6, if_neg h7]
    rfl
  · rw [h6, if_neg (by decide), if_pos rfl, extEdge, if_pos rfl]
    cases t.extClkPrev with
    | none => rfl
    | some prev => cases prev <;> cases l <;> rfl
  · rw [h7, if_neg (by decide), if_neg (by decide), if_pos rfl, extEdge, if_neg (by decide)]
    cases t.extClkPrev with
    | none => rfl
    | some prev => cases prev <;> cases l <;> rfl

theorem Timer.tickDue_stopped {n : Nat} {t : Timer n} (h : t.cs = 0) (l : Level) : (t.tickDue l).2 = false := by
  rw [(ticksWhenDue_holds t l).1 h]

/-- A pin that does not float is sampled at its level, whatever the draw. -/
theorem State.sample_of_level {s : State} {pin : PortId × Fin 8} {l : Level} (h : (s.portOf pin.1).level pin.2 = some l)
    (k : Nat) : s.sample pin k = l := by
  rw [State.sample, Port.drawnLevel, h]

/-- A cycle in which neither pin floats and Timer0 does not halt. -/
theorem State.advanceCycle_of_levels {s : State} {l l0 l1 : Level} (hl : s.portB.level 0 = some l)
    (hl0 : s.portD.level 4 = some l0) (hl1 : s.portD.level 5 = some l1)
    (hrun : ((s.drawn.inputCapture l).clock0 l0).halted = none) :
    s.advanceCycle = ((s.drawn.inputCapture l).clock0 l0).clock1 l1 := by
  have hcapture : s.sample capturePin (s.draws + 2) = l := State.sample_of_level (pin := capturePin) hl _
  have hclock0 : s.sample (clockPin .t0) s.draws = l0 := State.sample_of_level (pin := clockPin .t0) hl0 _
  have hclock1 : s.sample (clockPin .t1) (s.draws + 1) = l1 := State.sample_of_level (pin := clockPin .t1) hl1 _
  unfold State.advanceCycle
  rw [hcapture, hclock0, hclock1]
  dsimp only
  rw [hrun]
  rfl

theorem Timer.mode0_reserved {t : Timer 8} (h : t.wgm0 = 4 ∨ t.wgm0 = 6) : t.mode0.kind = .reserved := by
  obtain h | h := h <;> rw [Timer.mode0_kind, h] <;> rfl

theorem Timer.mode1_reserved {t : Timer 16} (h : t.wgm1 = 13) : t.mode1.kind = .reserved := by
  rw [Timer.mode1_kind, h]
  rfl

/-- Settles O58. -/
theorem reservedModeHalts : Obligations.ReservedModeHalts := by
  refine ⟨ticksWhenDue_holds, ticksWhenDue_holds, fun s l => ⟨rfl, rfl, fun l0 l1 hl hl0 hl1 => ⟨s.draws + 3, fun hrun =>
    State.advanceCycle_of_levels hl hl0 hl1 hrun⟩, fun hmode => ⟨fun hdue => ?due0, fun hno => ?no0,
    fun hcs => Timer.tickDue_stopped hcs l⟩, fun hmode => ⟨fun hdue => ?due1, fun hno => ?no1,
    fun hcs => Timer.tickDue_stopped hcs l⟩⟩⟩
  case due0 =>
    have hreserved : (s.timer0.prescaled l).mode0.kind = .reserved := Timer.mode0_reserved hmode
    have hclock : s.clock0 l = _ := (if_pos hdue).trans (if_pos hreserved)
    rw [hclock]
    exact ⟨rfl, rfl⟩
  case no0 =>
    rw [State.clock0, hno]
    rfl
  case due1 =>
    have hreserved : (s.timer1.prescaled l).mode1.kind = .reserved := Timer.mode1_reserved hmode
    have hclock : s.clock1 l = _ := (if_pos hdue).trans (if_pos hreserved)
    have hwgm : (s.timer1.prescaled l).wgm1.toNat = 13 := congrArg BitVec.toNat hmode
    rw [hclock, State.raise_halted, hwgm]
    exact ⟨rfl, rfl⟩
  case no1 =>
    rw [State.clock1, hno]
    rfl

end Sys2Proof.Machine
end

section
/-! PROOFS. The loader (R105 to R107 20_memory.md, R404 60_exceptions.md, R511 70_reset_and_hazards.md). -/
namespace Sys2Proof.Machine
open Claim

/-! ### O60: word arrays -/

/-- The words stored from word address `w` on, each at its two byte addresses, and every other byte as it was. -/
theorem storeProgram_read {m : Memory} (h : Memory.wf m = true) (w : Nat) (ws : List Word) (k : Nat) :
    Memory.read (storeProgram m w ws) (2 * k) =
        (if w ≤ k ∧ k < w + ws.length then lowByte (ws.getD (k - w) 0) else Memory.read m (2 * k)) ∧
      Memory.read (storeProgram m w ws) (2 * k + 1) =
        (if w ≤ k ∧ k < w + ws.length then highByte (ws.getD (k - w) 0) else Memory.read m (2 * k + 1)) := by
  induction ws generalizing m w with
  | nil =>
    rw [if_neg (by simp), if_neg (by simp)]
    exact ⟨rfl, rfl⟩
  | cons v ws ih =>
    have hlow := Memory.write_wf h (2 * w) (lowByte v)
    obtain ⟨heven, hodd⟩ := ih (Memory.write_wf hlow (2 * w + 1) (highByte v)) (w + 1)
    rw [storeProgram, heven, hodd, List.length_cons]
    rcases Nat.lt_trichotomy k w with hlt | rfl | hgt
    · have hrest : ¬ (w + 1 ≤ k ∧ k < w + 1 + ws.length) := by omega
      have hall : ¬ (w ≤ k ∧ k < w + (ws.length + 1)) := by omega
      rw [if_neg hrest, if_neg hrest, if_neg hall, if_neg hall, Memory.read_write_ne _ (by omega),
        Memory.read_write_ne _ (by omega), Memory.read_write_ne _ (by omega), Memory.read_write_ne _ (by omega)]
      exact ⟨rfl, rfl⟩
    · have hrest : ¬ (k + 1 ≤ k ∧ k < k + 1 + ws.length) := by omega
      have hall : k ≤ k ∧ k < k + (ws.length + 1) := by omega
      rw [if_neg hrest, if_neg hrest, if_pos hall, if_pos hall, Memory.read_write_ne _ (by omega),
        Memory.read_write_same h, Memory.read_write_same hlow, Nat.sub_self]
      exact ⟨rfl, rfl⟩
    · have hindex : k - w = k - (w + 1) + 1 := by omega
      have hiff : (w + 1 ≤ k ∧ k < w + 1 + ws.length) ↔ (w ≤ k ∧ k < w + (ws.length + 1)) := by omega
      rw [hindex, List.getD_cons_succ, Memory.read_write_ne _ (by omega), Memory.read_write_ne _ (by omega),
        Memory.read_write_ne _ (by omega), Memory.read_write_ne _ (by omega)]
      simp only [hiff, and_self]

theorem loaded_progWord (m : Memory) {w : Word} (hw : w.toNat < 16384) :
    (State.loaded m).progWord w = some (Memory.read m (2 * w.toNat + 1) ++ Memory.read m (2 * w.toNat)) :=
  if_pos hw

/-- Settles O60. -/
theorem constructFromWords : Obligations.ConstructFromWords := by
  refine fun ws => ⟨fun h => if_pos h, fun h => ⟨_, if_neg (Nat.not_lt.mpr h), rfl, fun w hw => ?_⟩⟩
  obtain ⟨heven, hodd⟩ := storeProgram_read Memory.nil_wf 0 ws w.toNat
  rw [loaded_progWord _ hw, heven, hodd]
  by_cases hin : w.toNat < ws.length
  · rw [if_pos (by omega), if_pos (by omega), Nat.sub_zero, highByte_lowByte]
  · rw [if_neg (by omega), if_neg (by omega), List.getD_eq_default _ _ (Nat.le_of_not_lt hin),
      Memory.read_nil, Memory.read_nil]
    rfl

/-! ### O59: where the bytes of a record land -/

/-- The bytes of a record from address `a` on, and every other byte as it was. -/
theorem storeRecord_read {m : Memory} (h : Memory.wf m = true) (a : Nat) (bytes : List Byte)
    (hfits : a + bytes.length ≤ 32768) :
    ∃ m', storeRecord m a bytes = some m' ∧ Memory.wf m' = true ∧ ∀ b, Memory.read m' b =
      if a ≤ b ∧ b < a + bytes.length then bytes.getD (b - a) 0 else Memory.read m b := by
  induction bytes generalizing m a with
  | nil => exact ⟨m, rfl, h, fun b => (if_neg (by simp)).symm⟩
  | cons v rest ih =>
    rw [List.length_cons] at hfits
    obtain ⟨m', hstore, hwf, hread⟩ := ih (Memory.write_wf h a v) (a + 1) (by omega)
    have hroom : a < Config.pmBytes := show a < 32768 by omega
    refine ⟨m', (if_pos hroom).trans hstore, hwf, fun b => ?_⟩
    rw [hread, List.length_cons]
    rcases Nat.lt_trichotomy b a with hlt | rfl | hgt
    · rw [if_neg (by omega), if_neg (by omega), Memory.read_write_ne _ (by omega)]
    · rw [if_neg (by omega), if_pos (by omega), Memory.read_write_same h, Nat.sub_self, List.getD_cons_zero]
    · have hindex : b - a = b - (a + 1) + 1 := by omega
      have hiff : (a + 1 ≤ b ∧ b < a + 1 + rest.length) ↔ (a ≤ b ∧ b < a + (rest.length + 1)) := by omega
      rw [hindex, List.getD_cons_succ, Memory.read_write_ne _ (by omega)]
      simp only [hiff]

theorem storeRecord_overflow {m : Memory} {a : Nat} {bytes : List Byte} (hne : bytes ≠ [])
    (h : 32768 < a + bytes.length) : storeRecord m a bytes = none := by
  induction bytes generalizing m a with
  | nil => exact absurd rfl hne
  | cons v rest ih =>
    rw [List.length_cons] at h
    by_cases hroom : a < 32768
    · have hrest : rest ≠ [] := fun e => by rw [e, List.length_nil] at h; omega
      exact (if_pos hroom).trans (ih hrest (by omega))
    · exact if_neg hroom

/-! ### The hex fields of a line -/

theorem hexDigit_of_digit : ∀ k, k < 16 → hexDigit ("0123456789ABCDEF".toList.getD k '0') = some k := by decide

theorem hexNumber_append (acc : Nat) (cs : List Char) (c : Char) {n v : Nat} (hn : hexNumber acc cs = some n)
    (hv : hexDigit c = some v) : hexNumber acc (cs ++ [c]) = some (16 * n + v) := by
  induction cs generalizing acc with
  | nil =>
    cases hn
    simp only [List.nil_append, hexNumber, hv]
  | cons d cs ih =>
    rw [List.cons_append, hexNumber]
    rw [hexNumber] at hn
    cases hd : hexDigit d with
    | none => rw [hd] at hn; cases hn
    | some u => rw [hd] at hn; exact ih _ hn

theorem hexText_length (len v : Nat) : (hexText len v).length = len := by
  induction len generalizing v with
  | zero => rfl
  | succ len ih => rw [hexText, List.length_append, ih, List.length_singleton]

/-- Hex characters read back as the number they write. -/
theorem hexNumber_hexText (len v : Nat) : hexNumber 0 (hexText len v) = some (v % 16 ^ len) := by
  induction len generalizing v with
  | zero => rw [pow_zero, Nat.mod_one]; rfl
  | succ len ih =>
    rw [hexText, hexNumber_append 0 _ _ (ih (v / 16)) (hexDigit_of_digit _ (Nat.mod_lt v (by decide))), pow_succ',
      Nat.mod_mul]
    exact congrArg some (Nat.add_comm ..)

theorem hexField_eq {line : List Char} {off len : Nat} {cs rest : List Char} (hdrop : line.drop off = cs ++ rest)
    (hlen : cs.length = len) : hexField line off len = hexNumber 0 cs := by
  have htake : (line.drop off).take len = cs := by rw [hdrop, ← hlen, List.take_left]
  rw [hexField, htake, if_pos hlen]

theorem hexField_hexText {line : List Char} {off len v : Nat} {rest : List Char}
    (hdrop : line.drop off = hexText len v ++ rest) (hv : v < 16 ^ len) : hexField line off len = some v := by
  rw [hexField_eq hdrop (hexText_length len v), hexNumber_hexText, Nat.mod_eq_of_lt hv]

/-- The 22 hex characters, by their codes. -/
theorem hexChar_of_code {k : Nat} (h : 48 ≤ k ∧ k ≤ 57 ∨ 65 ≤ k ∧ k ≤ 70 ∨ 97 ≤ k ∧ k ≤ 102) :
    Char.ofNat k ∈ "0123456789ABCDEFabcdef".toList := by
  obtain ⟨hlo, hhi⟩ | ⟨hlo, hhi⟩ | ⟨hlo, hhi⟩ := h <;> interval_cases k <;> decide

theorem hexDigit_notHex {c : Char} (h : notHex c) : hexDigit c = none := by
  have hcode : ¬ (48 ≤ c.toNat ∧ c.toNat ≤ 57 ∨ 65 ≤ c.toNat ∧ c.toNat ≤ 70 ∨ 97 ≤ c.toNat ∧ c.toNat ≤ 102) :=
    fun hk => h (Char.ofNat_toNat c ▸ hexChar_of_code hk)
  have hnone : (hexRuns.find? fun run => decide (run.1 ≤ c) && decide (c ≤ run.2.1)) = none := by
    rw [List.find?_eq_none]
    simp only [hexRuns, List.forall_mem_cons, Bool.and_eq_true, decide_eq_true_eq, Char.le_def, UInt32.le_iff_toNat_le]
    refine ⟨fun hk => hcode (.inl hk), fun hk => hcode (.inr (.inl hk)), fun hk => hcode (.inr (.inr hk)), ?_⟩
    simp
  rw [hexDigit, hnone]
  rfl

theorem hexNumber_notHex {cs : List Char} {c : Char} (hc : c ∈ cs) (h : notHex c) (acc : Nat) :
    hexNumber acc cs = none := by
  induction cs generalizing acc with
  | nil => cases hc
  | cons d cs ih =>
    rw [hexNumber]
    obtain rfl | hc := List.mem_cons.mp hc
    · rw [hexDigit_notHex h]
    · cases hexDigit d with
      | none => rfl
      | some v => exact ih hc _

/-- A field holds no number if the line ends before it does. -/
theorem hexField_short {line : List Char} {off len : Nat} (hlen : 0 < len) (h : line.length < off + len) :
    hexField line off len = none := by
  refine if_neg fun e => ?_
  rw [List.length_take, List.length_drop] at e
  omega

/-- A field holds no number if one of its characters is no hex digit. -/
theorem hexField_notHex {line : List Char} {off len j : Nat} {c : Char} (hlo : off ≤ j) (hhi : j < off + len)
    (hj : (line.drop j).head? = some c) (h : notHex c) : hexField line off len = none := by
  have hmem : c ∈ (line.drop off).take len := by
    rw [List.head?_drop] at hj
    refine List.mem_iff_getElem?.mpr ⟨j - off, ?_⟩
    rw [List.getElem?_take, if_pos (by omega), List.getElem?_drop, Nat.add_sub_cancel' hlo, hj]
  unfold hexField
  split
  · exact hexNumber_notHex hmem h 0
  · rfl

/-! ### Data records -/

theorem drop_append_length {α : Type} {xs cs rest : List α} {off n : Nat} (h : xs.drop off = cs ++ rest)
    (hlen : cs.length = n) : xs.drop (off + n) = rest := by
  rw [← List.drop_drop, h, ← hlen, List.drop_left]

theorem dataBytes_hexText {line : List Char} {off : Nat} {bytes : List Byte} {tail : List Char}
    (h : line.drop off = (bytes.map fun b => hexText 2 b.toNat).flatten ++ tail) :
    dataBytes line off bytes.length = some bytes := by
  induction bytes generalizing off with
  | nil => rfl
  | cons b bytes ih =>
    rw [List.map_cons, List.flatten_cons, List.append_assoc] at h
    have hfield := hexField_hexText h b.isLt
    have hrest := ih (drop_append_length h (hexText_length 2 _))
    rw [List.length_cons, dataBytes, hfield, hrest]
    exact congrArg (fun v => some (v :: bytes)) (BitVec.eq_of_toNat_eq (Nat.mod_eq_of_lt b.isLt))

/-- A line that reads `:`, two fields and `00` is a data line. -/
theorem recordLine_drops (a : Nat) (bytes : List Byte) (tail : List Char) :
    let line := recordLine a bytes tail
    line.drop 1 = hexText 2 bytes.length ++ line.drop 3 ∧ line.drop 3 = hexText 4 a ++ line.drop 7 ∧
      line.drop 7 = ['0', '0'] ++ line.drop 9 ∧
      line.drop 9 = (bytes.map fun b => hexText 2 b.toNat).flatten ++ tail := by
  intro line
  have h1 : line.drop 1 = hexText 2 bytes.length ++
      (hexText 4 a ++ (['0', '0'] ++ ((bytes.map fun b => hexText 2 b.toNat).flatten ++ tail))) := by
    simp only [line, recordLine, List.drop_succ_cons, List.drop_zero, List.append_assoc]
  have h3 := drop_append_length h1 (hexText_length 2 _)
  have h7 := drop_append_length h3 (hexText_length 4 _)
  have h9 := drop_append_length (n := 2) h7 rfl
  exact ⟨h3 ▸ h1, h7 ▸ h3, h9 ▸ h7, h9⟩

theorem dataRecord_recordLine {a : Nat} {bytes : List Byte} (ha : a < 65536) (hlen : bytes.length < 256)
    (tail : List Char) : dataRecord (recordLine a bytes tail) = some (a, bytes) := by
  obtain ⟨hcount, haddr, htype, hdata⟩ := recordLine_drops a bytes tail
  have hline : isDataLine (recordLine a bytes tail) = true := by
    rw [isDataLine, htype]
    rfl
  rw [dataRecord, if_pos hline, hexField_hexText hcount hlen, hexField_hexText haddr ha]
  simp only [dataBytes_hexText hdata, Option.map_some]

/-! ### Skipped lines -/

theorem dataBytes_none {line : List Char} {off n : Nat} (i : Nat) (hi : i < n)
    (h : hexField line (off + 2 * i) 2 = none) : dataBytes line off n = none := by
  induction n generalizing off i with
  | zero => omega
  | succ n ih =>
    rw [dataBytes]
    cases i with
    | zero => rw [show off + 2 * 0 = off from rfl] at h; rw [h]
    | succ i =>
      have hrest := ih (off := off + 2) i (by omega) (by rw [← h]; congr 1; omega)
      rw [hrest]
      cases hexField line off 2 <;> rfl

theorem dataRecord_of_not_data {line : List Char} (h : isDataLine line = false) : dataRecord line = none := by
  rw [dataRecord, h]
  rfl

/-- A data line is long enough for its type. -/
theorem isDataLine_length {line : List Char} (h : isDataLine line = true) : 9 ≤ line.length := by
  rw [isDataLine, Bool.and_eq_true, beq_iff_eq, beq_iff_eq] at h
  have hlen := congrArg List.length h.2
  rw [List.length_take, List.length_drop] at hlen
  change min 2 _ = 2 at hlen
  omega

/-- A line whose count, address or data is not as R105 says gives no record. -/
theorem dataRecord_of_field_none {line : List Char}
    (h : hexField line 1 2 = none ∨ hexField line 3 4 = none ∨
      ∃ n, hexField line 1 2 = some n ∧ dataBytes line 9 n = none) : dataRecord line = none := by
  unfold dataRecord
  split
  · obtain hcount | haddr | ⟨n, hcount, hdata⟩ := h
    · rw [hcount]
    · rw [haddr]
      cases hexField line 1 2 <;> rfl
    · rw [hcount]
      cases hexField line 3 4 with
      | none => rfl
      | some a => simp only [hdata, Option.map_none]
  · rfl

theorem dataRecord_skippedLine {line : List Char} (h : skippedLine line) : dataRecord line = none := by
  cases hline : isDataLine line with
  | false => exact dataRecord_of_not_data hline
  | true =>
    have hlong := isDataLine_length hline
    rw [isDataLine, Bool.and_eq_true, beq_iff_eq, beq_iff_eq] at hline
    obtain ⟨hmark, htype⟩ := hline
    obtain hhead | hkind | ⟨j, c, hlo, hhi, hj, hc⟩ | ⟨v, hv, hcount, hbad⟩ := h
    · exact absurd hmark hhead
    · exact absurd htype hkind
    · by_cases hsplit : j < 3
      · exact dataRecord_of_field_none (.inl (hexField_notHex hlo (by omega) hj hc))
      · exact dataRecord_of_field_none (.inr (.inl (hexField_notHex (j := j) (by omega) (by omega) hj hc)))
    · have hfield : hexField line 1 2 = some v :=
        hexField_hexText (rest := (line.drop 1).drop 2) (by rw [← hcount, List.take_append_drop]) hv
      refine dataRecord_of_field_none (.inr (.inr ⟨v, hfield, ?_⟩))
      obtain hshort | ⟨j, c, hlo, hhi, hj, hc⟩ := hbad
      · exact dataBytes_none (v - 1) (by omega) (hexField_short (by decide) (by omega))
      · exact dataBytes_none ((j - 9) / 2) (by omega) (hexField_notHex (j := j) (by omega) (by omega) hj hc)

/-! ### The lines of a text -/

theorem textLines_line {line : List Char} (h : '\n' ∉ line) (cur rest : List Char) :
    textLines cur (line ++ rest) = textLines (cur ++ line) rest := by
  induction line generalizing cur with
  | nil => rw [List.nil_append, List.append_nil]
  | cons c line ih =>
    rw [List.mem_cons, not_or] at h
    obtain ⟨hc, hline⟩ := h
    rw [List.cons_append, textLines, if_neg (Ne.symm hc), ih hline, List.append_assoc, List.singleton_append]

theorem textLines_intercalate {lines : List (List Char)} (hne : lines ≠ []) (h : ∀ line ∈ lines, '\n' ∉ line) :
    textLines [] (List.intercalate ['\n'] lines) = lines := by
  induction lines with
  | nil => exact absurd rfl hne
  | cons line lines ih =>
    obtain ⟨hline, hrest⟩ := List.forall_mem_cons.mp h
    cases lines with
    | nil =>
      have hone := textLines_line hline [] []
      rw [List.append_nil] at hone
      rw [List.intercalate_singleton, hone]
      rfl
    | cons next lines =>
      have htext : List.intercalate ['\n'] (line :: next :: lines) =
          line ++ '\n' :: List.intercalate ['\n'] (next :: lines) := by simp [List.intercalate]
      rw [htext, textLines_line hline, textLines, if_pos rfl, ih (by simp) hrest, List.nil_append]

theorem loadLines_skipped {line : List Char} (h : dataRecord line = none) (m : Memory) (rest : List (List Char)) :
    loadLines m (line :: rest) = loadLines m rest := by
  rw [loadLines, h]

theorem loadLines_record {line : List Char} {r : Nat × List Byte} (h : dataRecord line = some r) (m : Memory)
    (rest : List (List Char)) :
    loadLines m (line :: rest) = (storeRecord m r.1 r.2).bind fun m' => loadLines m' rest := by
  rw [loadLines, h]
  dsimp only
  cases storeRecord m r.1 r.2 <;> rfl

/-- Lines that hold the records given, or none. -/
theorem loadLines_eq_foldlM {ls : List (List Char × Option (Nat × List Byte))} (h : ∀ p ∈ ls, dataRecord p.1 = p.2)
    (m : Memory) :
    loadLines m (ls.map Prod.fst) = (ls.filterMap Prod.snd).foldlM (fun m r => storeRecord m r.1 r.2) m := by
  induction ls generalizing m with
  | nil => rfl
  | cons p ls ih =>
    obtain ⟨hp, hrest⟩ := List.forall_mem_cons.mp h
    obtain ⟨line, record⟩ := p
    cases record with
    | none => exact (loadLines_skipped hp m _).trans (ih hrest m)
    | some r =>
      rw [List.map_cons, loadLines_record hp, List.filterMap_cons_some (f := Prod.snd) (b := r) rfl, List.foldlM_cons]
      exact congrArg _ (funext fun m' => ih hrest m')

/-- Settles O59. -/
theorem recordBytesLandInOrder : Obligations.RecordBytesLandInOrder := by
  refine ⟨fun m a bytes hwf => ⟨fun hfits => ?lands, storeRecord_overflow⟩, fun ls h => ?text, fun text => ?construct⟩
  case lands =>
    obtain ⟨m', hstore, hwf', hread⟩ := storeRecord_read hwf a bytes hfits
    refine ⟨m', hstore, hwf', fun i => ?_, fun b hb => ?_⟩
    · have hi := i.isLt
      rw [hread, if_pos (by omega), Nat.add_sub_cancel_left, List.getD_eq_getElem _ _ hi]
      rfl
    · rw [hread, if_neg (by omega)]
  case text =>
    have hrecords : ∀ p ∈ ls, dataRecord p.1 = p.2 := by
      intro p hp
      obtain ⟨-, hline⟩ := h p hp
      obtain ⟨line, record⟩ := p
      cases record with
      | none => exact dataRecord_skippedLine hline
      | some r =>
        obtain ⟨ha, hlen, tail, htext⟩ := hline
        exact (congrArg dataRecord htext).trans (dataRecord_recordLine ha hlen tail)
    cases ls with
    | nil => rfl
    | cons p ls =>
      have hlines : ∀ line ∈ (p :: ls).map Prod.fst, '\n' ∉ line := by
        intro line hline
        obtain ⟨q, hq, rfl⟩ := List.mem_map.mp hline
        exact (h q hq).1
      rw [loadImage, textLines_intercalate (by simp) hlines, loadLines_eq_foldlM hrecords]
  case construct =>
    refine ⟨fun h => by rw [constructText, h], fun m h => ⟨State.loaded m, by rw [constructText, h], rfl, fun w hw => ?_⟩⟩
    exact loaded_progWord m hw

end Sys2Proof.Machine
end

section
/-! PROOFS. The overflow time of a freshly started timer (R457 60_exceptions.md): one tick of a rising mode, then the
prescaler, then the cycles of the block. -/
namespace Sys2Proof.Machine
open Claim

/-! ### One tick of a rising mode -/

/-- The modes of R457: normal, CTC up to OCRnA, and the fast mode up to OCRnA, where COM = 01 toggles. -/
def WaveMode.rising {n : Nat} (m : WaveMode n) : Prop :=
  m.kind = .normal ∨ (m.kind = .ctc ∧ m.top = .ocrA) ∨ (m.kind = .fast ∧ m.top = .ocrA ∧ m.toggleA = true)

/-- The number of ticks from BOTTOM to BOTTOM in a rising mode with OCRnA = `T`. -/
def WaveMode.period {n : Nat} (m : WaveMode n) (T : Nat) : Nat := if m.kind = .normal then 2 ^ n else T + 1

/-- What a tick leaves: the count, TOV, OCFA, the block and the registers it needs. -/
structure Rises {n : Nat} (m : WaveMode n) (T : Nat) (t u : Timer n) : Prop where
  count : u.count.toNat = if t.count.toNat + 1 = m.period T then 0 else t.count.toNat + 1
  tov : u.tifr.getLsbD 0 = (t.tifr.getLsbD 0 ||
    if m.kind = .ctc then decide (t.count.toNat = 2 ^ n - 1) else decide (t.count.toNat + 1 = m.period T))
  ocf : u.tifr.getLsbD 1 = (t.tifr.getLsbD 1 || decide (t.count.toNat = T))
  cmpBlock : u.cmpBlock = false
  tccrA : u.tccrA = t.tccrA
  tccrB : u.tccrB = t.tccrB
  ocrABuf : u.ocrABuf = t.ocrABuf
  ocrAAct : u.ocrAAct = t.ocrAAct
  psc : u.psc = t.psc

section
variable {n : Nat} {t : Timer n} {m : WaveMode n}

/-- In a rising mode the value compared on channel A is OCRnA, and so is TOP where it is not the maximum. -/
theorem comparedA_rising (hm : m.rising) (hact : m.kind = .fast → t.ocrAAct = t.ocrABuf) : comparedA t m = t.ocrABuf := by
  unfold comparedA WaveMode.isPwm
  obtain hk | ⟨hk, -⟩ | ⟨hk, -, -⟩ := hm
  · simp [hk]
  · simp [hk]
  · simp [hk, hact hk]

theorem topVal_rising (hm : m.rising) (hact : m.kind = .fast → t.ocrAAct = t.ocrABuf) (hk : m.kind ≠ .normal)
    (icr : BitVec n) : t.topVal m icr = t.ocrABuf := by
  have htop : m.top = .ocrA := by
    obtain h | ⟨-, h⟩ | ⟨-, h, -⟩ := hm
    · exact absurd h hk
    · exact h
    · exact h
  rw [Timer.topVal, htop]
  exact comparedA_rising hm hact

theorem tick_rises (hn : 0 < n) (hm : m.rising) (hact : m.kind = .fast → t.ocrAAct = t.ocrABuf)
    (hblock : t.cmpBlock = false) (hc : t.count.toNat < m.period t.ocrABuf.toNat) (icr : BitVec n) :
    Rises m t.ocrABuf.toNat t (t.tick m icr) := by
  obtain ⟨hocf, -, hcmp, -, htccrA, htccrB, hbuf, -, -, hpsc, -⟩ := compares_tick t m icr
  have hcounts := counts_tick hn t m icr
  have hTlt := t.ocrABuf.isLt
  have hatTop : decide (t.count = t.ocrABuf) = decide (t.count.toNat = t.ocrABuf.toNat) :=
    decide_eq_decide.mpr BitVec.toNat_inj.symm
  have hocf' : (t.tick m icr).tifr.getLsbD 1 = (t.tifr.getLsbD 1 || decide (t.count.toNat = t.ocrABuf.toNat)) := by
    rw [hocf, hblock, comparedA_rising hm hact, hatTop]
    rfl
  suffices h : (t.tick m icr).count.toNat = _ ∧ (t.tick m icr).tifr.getLsbD 0 = _ ∧ (t.tick m icr).ocrAAct = t.ocrAAct from
    ⟨h.1, h.2.1, hocf', hcmp, htccrA, htccrB, hbuf, h.2.2, hpsc⟩
  by_cases hk : m.kind = .normal
  · have hctc : m.kind ≠ .ctc := by rw [hk]; decide
    rw [hk] at hcounts
    obtain ⟨hcount, -, htov, -, hupdate, -⟩ := hcounts
    rw [WaveMode.period, if_pos hk] at hc ⊢
    rw [if_neg hctc, hcount, htov, hupdate]
    refine ⟨?_, congrArg _ (decide_eq_decide.mpr (by omega)), rfl⟩
    split_ifs with hwrap
    · rw [hwrap, Nat.mod_self]
    · exact Nat.mod_eq_of_lt (by omega)
  · have htop := topVal_rising hm hact hk icr
    rw [WaveMode.period, if_neg hk] at hc ⊢
    have hnext : (if decide (t.count = t.ocrABuf) then 0 else t.count.toNat + 1) % 2 ^ n =
        if t.count.toNat + 1 = t.ocrABuf.toNat + 1 then 0 else t.count.toNat + 1 := by
      rw [hatTop]
      simp only [decide_eq_true_eq, Nat.add_right_cancel_iff]
      split_ifs
      · exact Nat.zero_mod _
      · exact Nat.mod_eq_of_lt (by omega)
    obtain hnormal | ⟨hctc, -⟩ | ⟨hfast, -, -⟩ := hm
    · exact absurd hnormal hk
    · rw [hctc, htop] at hcounts
      obtain ⟨hcount, -, htov, -, hupdate, -⟩ := hcounts
      rw [if_pos hctc]
      exact ⟨hcount.trans hnext, htov, hupdate⟩
    · have hctc : m.kind ≠ .ctc := by rw [hfast]; decide
      rw [hfast, htop] at hcounts
      obtain ⟨hcount, -, htov, -, hupdate, -⟩ := hcounts
      rw [if_neg hctc]
      refine ⟨hcount.trans hnext, htov.trans (congrArg _ ?_), ?_⟩
      · rw [hatTop]
        exact decide_eq_decide.mpr Nat.add_right_cancel_iff.symm
      · rw [hupdate, hact hfast, ite_self]

/-- The pin of channel A toggles at a match, where COM = 01. -/
theorem pinBitAfter_rising (hm : m.rising) (hact : m.kind = .fast → t.ocrAAct = t.ocrABuf)
    (hblock : t.cmpBlock = false) (hcom : t.com .a = 1) (icr : BitVec n) (old : Bool) :
    t.pinBitAfter m icr .a old = (old ^^ decide (t.count.toNat = t.ocrABuf.toNat)) := by
  have hatTop : decide (t.count = t.ocrABuf) = decide (t.count.toNat = t.ocrABuf.toNat) :=
    decide_eq_decide.mpr BitVec.toNat_inj.symm
  rw [Timer.pinBitAfter_a, comparedA_rising hm hact, hcom, hblock, hatTop]
  obtain hk | ⟨hk, -⟩ | ⟨hk, -, htog⟩ := hm
  · rw [hk]; rfl
  · rw [hk]; rfl
  · rw [hk, htog]
    show (old ^^ (_ && true)) = _
    rw [Bool.and_true]
    rfl

end
/-! ### The timer and its port after a number of ticks -/

/-- A timer and the port of its compare outputs, `j` ticks after the timer was `t₀`, at BOTTOM in the rising mode `m`; `i`
is the pin of channel A. -/
structure Ticked {n : Nat} (t₀ : Timer n) (p₀ : Port) (m : WaveMode n) (i : Fin 8) (j : Nat) (t : Timer n) (p : Port) :
    Prop where
  count : t.count.toNat = j % m.period t₀.ocrABuf.toNat
  cmpBlock : t.cmpBlock = false
  tccrA : t.tccrA = t₀.tccrA
  tccrB : t.tccrB = t₀.tccrB
  ocrABuf : t.ocrABuf = t₀.ocrABuf
  ocrAAct : t.ocrAAct = t₀.ocrAAct
  tov : m.kind ≠ .ctc → t.tifr.getLsbD 0 = (t₀.tifr.getLsbD 0 || decide (m.period t₀.ocrABuf.toNat ≤ j))
  ctcTov : m.kind = .ctc → t₀.ocrABuf.toNat < 2 ^ n - 1 → t.tifr.getLsbD 0 = t₀.tifr.getLsbD 0
  ocf : t.tifr.getLsbD 1 = (t₀.tifr.getLsbD 1 || decide (t₀.ocrABuf.toNat + 1 ≤ j))
  ddr : p.ddr = p₀.ddr
  pin : p₀.ddr.getLsbD i = true → t₀.com .a = 1 → j ≤ m.period t₀.ocrABuf.toNat →
    p.port.getLsbD i = (p₀.port.getLsbD i ^^ decide (t₀.ocrABuf.toNat + 1 ≤ j))

/-- The number of whole periods goes up at the last cycle of one. -/
theorem succ_div_mod {P : Nat} (hP : 0 < P) (k : Nat) :
    ((k + 1) / P = if k % P + 1 = P then k / P + 1 else k / P) ∧ (k + 1) % P = if k % P + 1 = P then 0 else k % P + 1 := by
  have hk := Nat.div_add_mod k P
  have hlt := Nat.mod_lt k hP
  split_ifs with h
  · have hk' : k + 1 = P * (k / P + 1) := by rw [Nat.mul_add]; omega
    rw [hk', Nat.mul_div_cancel_left _ hP, Nat.mul_mod_right]
    exact ⟨rfl, rfl⟩
  · have hk' : k + 1 = P * (k / P) + (k % P + 1) := by omega
    refine ⟨?_, ?_⟩
    · calc (k + 1) / P = (P * (k / P) + (k % P + 1)) / P := by rw [← hk']
        _ = k / P + (k % P + 1) / P := by rw [Nat.mul_add_div hP]
        _ = k / P := by rw [Nat.div_eq_of_lt (show k % P + 1 < P by omega), Nat.add_zero]
    · calc (k + 1) % P = (P * (k / P) + (k % P + 1)) % P := by rw [← hk']
        _ = k % P + 1 := by rw [Nat.mul_add_mod, Nat.mod_eq_of_lt (show k % P + 1 < P by omega)]

theorem WaveMode.period_gt {n : Nat} (m : WaveMode n) (v : BitVec n) : v.toNat < m.period v.toNat := by
  unfold WaveMode.period
  split
  · exact v.isLt
  · exact Nat.lt_succ_self _

section
variable {n : Nat} {t₀ t : Timer n} {p₀ p : Port} {m : WaveMode n} {i : Fin 8} {j k : Nat}

theorem ticked_zero (hcount : t₀.count = 0) (hblock : t₀.cmpBlock = false) : Ticked t₀ p₀ m i 0 t₀ p₀ where
  count := by rw [hcount, Nat.zero_mod]; simp
  cmpBlock := hblock
  tccrA := rfl
  tccrB := rfl
  ocrABuf := rfl
  ocrAAct := rfl
  tov _ := by
    have hpos := m.period_gt t₀.ocrABuf
    rw [decide_eq_false (by omega), Bool.or_false]
  ctcTov _ _ := rfl
  ocf := by simp
  ddr := rfl
  pin _ _ _ := by simp

/-- The prescaler is no part of it. -/
theorem Ticked.prescaled (h : Ticked t₀ p₀ m i j t p) (l : Level) : Ticked t₀ p₀ m i j (t.prescaled l) p :=
  ⟨h.count, h.cmpBlock, h.tccrA, h.tccrB, h.ocrABuf, h.ocrAAct, h.tov, h.ctcTov, h.ocf, h.ddr, h.pin⟩

/-- Neither is ICF, which the capture unit may set. -/
theorem Ticked.raiseIcf (h : Ticked t₀ p₀ m i j t p) (b : Bool) : Ticked t₀ p₀ m i j (t.raiseFlag icfBit b) p :=
  have hbit {j : Nat} (hj : j < 8) (h5 : j ≠ icfBit) : (t.raiseFlag icfBit b).tifr.getLsbD j = t.tifr.getLsbD j := by
    rw [Timer.raiseFlag_tifr_bit _ hj, decide_eq_false h5, Bool.and_false, Bool.or_false]
  ⟨h.count, h.cmpBlock, h.tccrA, h.tccrB, h.ocrABuf, h.ocrAAct, fun hk => (hbit (by decide) (by decide)).trans (h.tov hk),
    fun hk hT => (hbit (by decide) (by decide)).trans (h.ctcTov hk hT), (hbit (by decide) (by decide)).trans h.ocf, h.ddr,
    h.pin⟩

/-- A property reached at a count within the period is reached at that tick, and stays. -/
theorem or_reached {N c j : Nat} (hc : c < N) :
    (decide (c + 1 ≤ j) || decide (j % N = c)) = decide (c + 1 ≤ j + 1) := by
  rw [← Bool.decide_or]
  refine decide_eq_decide.mpr ⟨fun h => ?_, fun h => ?_⟩
  · obtain h | h := h
    · omega
    · have := Nat.mod_le j N
      omega
  · by_cases hj : c + 1 ≤ j
    · exact .inl hj
    · exact .inr (by rw [Nat.mod_eq_of_lt (by omega)]; omega)

theorem Ticked.tick (h : Ticked t₀ p₀ m i j t p) (hn : 0 < n) (hm : m.rising)
    (hact : m.kind = .fast → t₀.ocrAAct = t₀.ocrABuf) (icr : BitVec n) {i' : Fin 8} (hi : i ≠ i') :
    Ticked t₀ p₀ m i (j + 1) (t.tick m icr) (p.tickPins i i' t m icr) := by
  have hgt := m.period_gt t₀.ocrABuf
  have hact' : m.kind = .fast → t.ocrAAct = t.ocrABuf := fun hk => by rw [h.ocrAAct, h.ocrABuf, hact hk]
  have hin : t.count.toNat < m.period t.ocrABuf.toNat := by
    rw [h.count, h.ocrABuf]
    exact Nat.mod_lt _ (by omega)
  have r := tick_rises hn hm hact' h.cmpBlock hin icr
  obtain ⟨-, hmod⟩ := succ_div_mod (P := m.period t₀.ocrABuf.toNat) (by omega) j
  have hT : (t.ocrABuf.toNat : Nat) = t₀.ocrABuf.toNat := by rw [h.ocrABuf]
  constructor
  case count => rw [r.count, hT, h.count, hmod]
  case cmpBlock => exact r.cmpBlock
  case tccrA => exact r.tccrA.trans h.tccrA
  case tccrB => exact r.tccrB.trans h.tccrB
  case ocrABuf => exact r.ocrABuf.trans h.ocrABuf
  case ocrAAct => exact r.ocrAAct.trans h.ocrAAct
  case tov =>
    intro hk
    have hlast : (decide (j % m.period t₀.ocrABuf.toNat + 1 = m.period t₀.ocrABuf.toNat)) =
        decide (j % m.period t₀.ocrABuf.toNat = m.period t₀.ocrABuf.toNat - 1) := decide_eq_decide.mpr (by omega)
    have hreach := or_reached (N := m.period t₀.ocrABuf.toNat) (c := m.period t₀.ocrABuf.toNat - 1) (j := j) (by omega)
    rw [Nat.sub_add_cancel (by omega)] at hreach
    rw [r.tov, if_neg hk, h.tov hk, hT, h.count, Bool.or_assoc, hlast, hreach]
  case ctcTov =>
    intro hk hmax
    have hle : t.count.toNat ≤ t₀.ocrABuf.toNat := by
      rw [hT, WaveMode.period, if_neg (by rw [hk]; decide)] at hin
      omega
    rw [r.tov, if_pos hk, decide_eq_false (by omega), Bool.or_false, h.ctcTov hk hmax]
  case ocf => rw [r.ocf, h.ocf, hT, h.count, Bool.or_assoc, or_reached hgt]
  case ddr => simp only [Port.tickPins, Port.act_ddr, h.ddr]
  case pin =>
    intro hout hcom hj
    have hout' : p.ddr.getLsbD i = true := by rw [h.ddr, hout]
    have hcom' : t.com .a = 1 := by rw [Timer.com, h.tccrA]; exact hcom
    have htoggle : (decide (t₀.ocrABuf.toNat + 1 ≤ j) ^^ decide (j = t₀.ocrABuf.toNat)) =
        decide (t₀.ocrABuf.toNat + 1 ≤ j + 1) := by
      by_cases hlater : t₀.ocrABuf.toNat + 1 ≤ j
      · rw [decide_eq_true hlater, decide_eq_false (by omega), decide_eq_true (by omega)]
        rfl
      · rw [decide_eq_false hlater, Bool.false_xor]
        exact decide_eq_decide.mpr (by omega)
    rw [Port.tickPins_port_bit p hi t m icr i.isLt, if_neg (by rw [hout']; decide), if_pos rfl,
      pinBitAfter_rising hm hact' h.cmpBlock hcom', h.pin hout hcom (by omega), h.count, hT, Nat.mod_eq_of_lt (by omega),
      Bool.xor_assoc, htoggle]

/-! ### The timer and its port after a number of cycles -/

/-- The same after `k` cycles of a prescaler that divides by `factor t₀.cs`. -/
structure Ran (t₀ : Timer n) (p₀ : Port) (m : WaveMode n) (i : Fin 8) (k : Nat) (t : Timer n) (p : Port) : Prop where
  psc : t.psc = k % factor t₀.cs
  ticked : Ticked t₀ p₀ m i (k / factor t₀.cs) t p

theorem ran_zero (hcount : t₀.count = 0) (hpsc : t₀.psc = 0) (hblock : t₀.cmpBlock = false) :
    Ran t₀ p₀ m i 0 t₀ p₀ :=
  ⟨by rw [hpsc, Nat.zero_mod], by rw [Nat.zero_div]; exact ticked_zero hcount hblock⟩

theorem Ran.raiseIcf (h : Ran t₀ p₀ m i k t p) (b : Bool) : Ran t₀ p₀ m i k (t.raiseFlag icfBit b) p :=
  ⟨h.psc, h.ticked.raiseIcf b⟩

variable (hlo : 1 ≤ t₀.cs.toNat) (hhi : t₀.cs.toNat ≤ 5)
include hlo hhi

theorem factor_pos : 0 < factor t₀.cs :=
  (by decide : ∀ c : BitVec 3, 1 ≤ c.toNat → c.toNat ≤ 5 → 0 < factor c) t₀.cs hlo hhi

/-- The prescaler gives a tick at the last cycle of its period, whatever its clock pin. -/
theorem Ran.tickDue (h : Ran t₀ p₀ m i k t p) (l : Level) :
    t.tickDue l = if k % factor t₀.cs + 1 = factor t₀.cs then (0, true) else (k % factor t₀.cs + 1, false) := by
  have hcs : t.cs = t₀.cs := by rw [Timer.cs, h.ticked.tccrB, Timer.cs]
  obtain ⟨-, hdivides, -⟩ := ticksWhenDue_holds t l
  rw [hcs, h.psc] at hdivides
  exact hdivides hlo hhi

/-- A cycle without a tick. -/
theorem Ran.waits (h : Ran t₀ p₀ m i k t p) {l : Level} (hno : (t.tickDue l).2 = false) :
    Ran t₀ p₀ m i (k + 1) (t.prescaled l) p := by
  obtain ⟨hdiv, hmod⟩ := succ_div_mod (factor_pos hlo hhi) k
  have hdue := h.tickDue hlo hhi l
  have hnot : ¬ k % factor t₀.cs + 1 = factor t₀.cs := fun e => by
    rw [hdue, if_pos e] at hno
    cases hno
  rw [if_neg hnot] at hdiv hmod hdue
  refine ⟨?_, hdiv ▸ h.ticked.prescaled l⟩
  rw [hmod]
  exact congrArg Prod.fst hdue

/-- A cycle with a tick. -/
theorem Ran.ticks (h : Ran t₀ p₀ m i k t p) {l : Level} (hdue : (t.tickDue l).2 = true) (hn : 0 < n) (hm : m.rising)
    (hact : m.kind = .fast → t₀.ocrAAct = t₀.ocrABuf) (icr : BitVec n) {i' : Fin 8} (hi : i ≠ i') :
    Ran t₀ p₀ m i (k + 1) ((t.prescaled l).tick m icr) (p.tickPins i i' (t.prescaled l) m icr) := by
  obtain ⟨hdiv, hmod⟩ := succ_div_mod (factor_pos hlo hhi) k
  have hlast := h.tickDue hlo hhi l
  have hwrap : k % factor t₀.cs + 1 = factor t₀.cs := by
    by_contra hnot
    rw [hlast, if_neg hnot] at hdue
    cases hdue
  rw [if_pos hwrap] at hdiv hmod hlast
  refine ⟨?_, hdiv ▸ (h.ticked.prescaled l).tick hn hm hact icr hi⟩
  have hpsc : ((t.prescaled l).tick m icr).psc = (t.prescaled l).psc := by
    obtain ⟨-, -, -, -, -, -, -, -, -, hkept, -⟩ := compares_tick (t.prescaled l) m icr
    exact hkept
  rw [hpsc, hmod]
  exact congrArg Prod.fst hlast

/-! The same in cycles. -/

theorem le_div_factor (x : Nat) : decide (x ≤ k / factor t₀.cs) = decide (factor t₀.cs * x ≤ k) :=
  decide_eq_decide.mpr (by rw [Nat.le_div_iff_mul_le (factor_pos hlo hhi), Nat.mul_comm])

theorem Ran.tov (h : Ran t₀ p₀ m i k t p) (hk : m.kind ≠ .ctc) : t.tifr.getLsbD 0 =
    (t₀.tifr.getLsbD 0 || decide (factor t₀.cs * m.period t₀.ocrABuf.toNat ≤ k)) := by
  rw [h.ticked.tov hk, le_div_factor hlo hhi]

theorem Ran.ocf (h : Ran t₀ p₀ m i k t p) : t.tifr.getLsbD 1 =
    (t₀.tifr.getLsbD 1 || decide (factor t₀.cs * (t₀.ocrABuf.toNat + 1) ≤ k)) := by
  rw [h.ticked.ocf, le_div_factor hlo hhi]

theorem Ran.pin (h : Ran t₀ p₀ m i k t p) (hout : p₀.ddr.getLsbD i = true) (hcom : t₀.com .a = 1)
    (hk : k ≤ factor t₀.cs * m.period t₀.ocrABuf.toNat) : p.port.getLsbD i =
      (p₀.port.getLsbD i ^^ decide (factor t₀.cs * (t₀.ocrABuf.toNat + 1) ≤ k)) := by
  rw [h.ticked.pin hout hcom (Nat.div_le_of_le_mul hk), le_div_factor hlo hhi]

/-! The three modes of R457, for either timer. -/

theorem Ran.normal (h : Ran t₀ p₀ m i k t p) (hk : m.kind = .normal) :
    t.tifr.getLsbD 0 = (t₀.tifr.getLsbD 0 || decide (factor t₀.cs * 2 ^ n ≤ k)) ∧
    (p₀.ddr.getLsbD i = true → t₀.com .a = 1 → k ≤ factor t₀.cs * 2 ^ n →
      p.port.getLsbD i = (p₀.port.getLsbD i ^^ decide (factor t₀.cs * (t₀.ocrABuf.toNat + 1) ≤ k))) := by
  have hperiod : m.period t₀.ocrABuf.toNat = 2 ^ n := by rw [WaveMode.period, if_pos hk]
  rw [← hperiod]
  exact ⟨h.tov hlo hhi (by rw [hk]; decide), h.pin hlo hhi⟩

theorem Ran.fast (h : Ran t₀ p₀ m i k t p) (hk : m.kind = .fast) :
    t.tifr.getLsbD 0 = (t₀.tifr.getLsbD 0 || decide (factor t₀.cs * (t₀.ocrABuf.toNat + 1) ≤ k)) ∧
    (p₀.ddr.getLsbD i = true → t₀.com .a = 1 → k ≤ factor t₀.cs * (t₀.ocrABuf.toNat + 1) →
      p.port.getLsbD i = (p₀.port.getLsbD i ^^ decide (factor t₀.cs * (t₀.ocrABuf.toNat + 1) ≤ k))) := by
  have hperiod : m.period t₀.ocrABuf.toNat = t₀.ocrABuf.toNat + 1 := by
    rw [WaveMode.period, if_neg (by rw [hk]; decide)]
  have htov := h.tov hlo hhi (by rw [hk]; decide)
  have hpin := h.pin hlo hhi
  rw [hperiod] at htov hpin
  exact ⟨htov, hpin⟩

theorem Ran.ctc (h : Ran t₀ p₀ m i k t p) (hk : m.kind = .ctc) :
    t.tifr.getLsbD 1 = (t₀.tifr.getLsbD 1 || decide (factor t₀.cs * (t₀.ocrABuf.toNat + 1) ≤ k)) ∧
    (t₀.ocrABuf.toNat < 2 ^ n - 1 → t.tifr.getLsbD 0 = t₀.tifr.getLsbD 0) ∧
    (p₀.ddr.getLsbD i = true → t₀.com .a = 1 → k ≤ factor t₀.cs * (t₀.ocrABuf.toNat + 1) →
      p.port.getLsbD i = (p₀.port.getLsbD i ^^ decide (factor t₀.cs * (t₀.ocrABuf.toNat + 1) ≤ k))) := by
  have hperiod : m.period t₀.ocrABuf.toNat = t₀.ocrABuf.toNat + 1 := by
    rw [WaveMode.period, if_neg (by rw [hk]; decide)]
  have hpin := h.pin hlo hhi
  rw [hperiod] at hpin
  exact ⟨h.ocf hlo hhi, h.ticked.ctcTov hk, hpin⟩

end

/-! ### Cycles of the block -/

/-- A cycle whose first half leaves the block running. -/
theorem State.advanceCycle_reaches {P Q R : State → Prop} {u : State} (hcapture : ∀ l, P (u.drawn.inputCapture l))
    (hclock0 : ∀ {v} l, P v → Q (v.clock0 l)) (hrun : ∀ {v}, Q v → v.halted = none)
    (hclock1 : ∀ {v} l, Q v → R (v.clock1 l)) : R u.advanceCycle := by
  have h := hclock0 (u.sample (clockPin .t0) u.draws) (hcapture (u.sample capturePin (u.draws + 2)))
  unfold State.advanceCycle
  dsimp only
  rw [hrun h]
  exact hclock1 _ h

/-- Cycles that leave the block running, counted. -/
theorem State.advance_reaches {P : Nat → State → Prop} (hcycle : ∀ {j u}, P j u → P (j + 1) u.advanceCycle)
    (hrun : ∀ {j u}, P j u → u.halted = none) (k : Nat) {j : Nat} {s : State} (h : P j s) : P (j + k) (s.advance k) := by
  induction k generalizing j s with
  | zero => exact h
  | succ k ih =>
    have hnext := hcycle h
    rw [State.advance, hrun hnext, Nat.add_comm k 1, ← Nat.add_assoc]
    exact ih hnext

theorem WaveMode.rising.not_reserved {n : Nat} {m : WaveMode n} (h : m.rising) : m.kind ≠ .reserved := by
  obtain hk | ⟨hk, -⟩ | ⟨hk, -, -⟩ := h <;> rw [hk] <;> decide

theorem Timer.mode0_congr {t u : Timer 8} (hA : t.tccrA = u.tccrA) (hB : t.tccrB = u.tccrB) : t.mode0 = u.mode0 := by
  rw [Timer.mode0, Timer.wgm0, hA, hB, Timer.mode0, Timer.wgm0]

theorem Timer.mode1_congr {t u : Timer 16} (hA : t.tccrA = u.tccrA) (hB : t.tccrB = u.tccrB) : t.mode1 = u.mode1 := by
  rw [Timer.mode1, Timer.wgm1, hA, hB, Timer.mode1, Timer.wgm1]

theorem Timer.tick_mode0 (t : Timer 8) (m : WaveMode 8) (icr : BitVec 8) : (t.tick m icr).mode0 = t.mode0 := by
  obtain ⟨-, -, -, -, hA, hB, -⟩ := compares_tick t m icr
  exact Timer.mode0_congr hA hB

theorem Timer.tick_mode1 (t : Timer 16) (m : WaveMode 16) (icr : BitVec 16) : (t.tick m icr).mode1 = t.mode1 := by
  obtain ⟨-, -, -, -, hA, hB, -⟩ := compares_tick t m icr
  exact Timer.mode1_congr hA hB

/-! ### O52: Timer0 -/

/-- `k` cycles after `s` the block runs, Timer1 does not raise, and Timer0 with port D is where `Ran` says. -/
def State.ran0 (s : State) (k : Nat) (u : State) : Prop :=
  u.halted = none ∧ u.timer1.mode1.kind ≠ .reserved ∧ Ran s.timer0 s.portD s.timer0.mode0 6 k u.timer0 u.portD

section
variable {s u : State} {k : Nat} (hlo : 1 ≤ s.timer0.cs.toNat) (hhi : s.timer0.cs.toNat ≤ 5) (hm : s.timer0.mode0.rising)
  (hact : s.timer0.mode0.kind = .fast → s.timer0.ocrAAct = s.timer0.ocrABuf)

/-- Timer1 and its port are another matter. -/
theorem State.clock1_ran0 (l : Level) (h : s.ran0 k u) : s.ran0 k (u.clock1 l) := by
  obtain ⟨hrun, hother, hran⟩ := h
  obtain ⟨-, e⟩ | ⟨-, hreserved, -⟩ | ⟨-, -, e⟩ := State.clock1_cases u l
  · rw [e]; exact ⟨hrun, hother, hran⟩
  · exact absurd hreserved hother
  · rw [e]
    exact ⟨hrun, (Timer.tick_mode1 (u.timer1.prescaled l) _ _).symm ▸ hother, hran⟩

include hlo hhi hm hact

theorem State.clock0_ran0 (l : Level) (h : s.ran0 k u) : s.ran0 (k + 1) (u.clock0 l) := by
  obtain ⟨hrun, hother, hran⟩ := h
  have hmode : (u.timer0.prescaled l).mode0 = s.timer0.mode0 :=
    Timer.mode0_congr hran.ticked.tccrA hran.ticked.tccrB
  obtain ⟨hno, e⟩ | ⟨-, hreserved, -⟩ | ⟨hdue, -, e⟩ := State.clock0_cases u l
  · rw [e]; exact ⟨hrun, hother, hran.waits hlo hhi hno⟩
  · exact absurd (hmode ▸ hreserved) hm.not_reserved
  · rw [e]
    dsimp only
    rw [hmode]
    exact ⟨hrun, hother, hran.ticks hlo hhi hdue (by decide) hm hact 0 (by decide)⟩

theorem State.advance_ran0 (h : s.ran0 0 s) (k : Nat) : s.ran0 k (s.advance k) := by
  have hcycle {j : Nat} {u : State} (h : s.ran0 j u) : s.ran0 (j + 1) u.advanceCycle :=
    State.advanceCycle_reaches (P := s.ran0 j) (fun _ => h) (State.clock0_ran0 hlo hhi hm hact) (fun h => h.1)
      State.clock1_ran0
  have := State.advance_reaches (P := s.ran0) hcycle (fun h => h.1) k h
  rwa [Nat.zero_add] at this

end

/-- Settles O52: the three modes are rising, and `Ran` gives their flags and their pin. -/
theorem timer0OverflowTime : Obligations.Timer0OverflowTime := by
  intro s k ⟨hrun, hother, hlo, hhi, hcount, hpsc, hblock⟩ P T
  have hzero : s.ran0 0 s := ⟨hrun, hother, ran_zero hcount hpsc hblock⟩
  have hran (hm : s.timer0.mode0.rising) (hact : s.timer0.mode0.kind = .fast → s.timer0.ocrAAct = s.timer0.ocrABuf) :
      Ran s.timer0 s.portD s.timer0.mode0 6 k (s.advance k).timer0 (s.advance k).portD :=
    (State.advance_ran0 hlo hhi hm hact hzero k).2.2
  refine ⟨fun hwgm => ?normal, fun hwgm hact => ?fast, fun hwgm => ?ctc⟩
  case normal =>
    have hmode : s.timer0.mode0 = ⟨.normal, .const 0xFF, false⟩ := by rw [Timer.mode0, hwgm]; rfl
    have hk : s.timer0.mode0.kind = .normal := by rw [hmode]
    exact (hran (.inl hk) (fun h => by rw [hk] at h; cases h)).normal hlo hhi hk
  case fast =>
    have hmode : s.timer0.mode0 = ⟨.fast, .ocrA, true⟩ := by rw [Timer.mode0, hwgm]; rfl
    have hm : s.timer0.mode0.rising := .inr (.inr (by rw [hmode]; exact ⟨rfl, rfl, rfl⟩))
    exact (hran hm (fun _ => hact)).fast hlo hhi (by rw [hmode])
  case ctc =>
    have hmode : s.timer0.mode0 = ⟨.ctc, .ocrA, false⟩ := by rw [Timer.mode0, hwgm]; rfl
    have hm : s.timer0.mode0.rising := .inr (.inl (by rw [hmode]; exact ⟨rfl, rfl⟩))
    have hk : s.timer0.mode0.kind = .ctc := by rw [hmode]
    exact (hran hm (fun h => by rw [hk] at h; cases h)).ctc hlo hhi hk

/-! ### O53: Timer1 -/

/-- `k` cycles after `s` the block runs, Timer0 does not stop it, and Timer1 with port B is where `Ran` says. -/
def State.ran1 (s : State) (k : Nat) (u : State) : Prop :=
  u.halted = none ∧ u.timer0.mode0.kind ≠ .reserved ∧ Ran s.timer1 s.portB s.timer1.mode1 1 k u.timer1 u.portB

section
variable {s u : State} {k : Nat} (hlo : 1 ≤ s.timer1.cs.toNat) (hhi : s.timer1.cs.toNat ≤ 5) (hm : s.timer1.mode1.rising)
  (hact : s.timer1.mode1.kind = .fast → s.timer1.ocrAAct = s.timer1.ocrABuf)

/-- A capture raises ICF at most, and writes ICR1, which is not TOP here. -/
theorem State.inputCapture_ran1 (l : Level) (h : s.ran1 k u) : s.ran1 k (u.drawn.inputCapture l) := by
  obtain ⟨hrun, hother, hran⟩ := h
  refine ⟨hrun, hother, ?_⟩
  rw [State.inputCapture_timer1]
  exact hran.raiseIcf _

theorem State.clock0_ran1 (l : Level) (h : s.ran1 k u) : s.ran1 k (u.clock0 l) := by
  obtain ⟨hrun, hother, hran⟩ := h
  obtain ⟨-, e⟩ | ⟨-, hreserved, -⟩ | ⟨-, -, e⟩ := State.clock0_cases u l
  · rw [e]; exact ⟨hrun, hother, hran⟩
  · exact absurd hreserved hother
  · rw [e]
    exact ⟨hrun, (Timer.tick_mode0 (u.timer0.prescaled l) _ _).symm ▸ hother, hran⟩

include hlo hhi hm hact

theorem State.clock1_ran1 (l : Level) (h : s.ran1 k u) : s.ran1 (k + 1) (u.clock1 l) := by
  obtain ⟨hrun, hother, hran⟩ := h
  have hmode : (u.timer1.prescaled l).mode1 = s.timer1.mode1 :=
    Timer.mode1_congr hran.ticked.tccrA hran.ticked.tccrB
  obtain ⟨hno, e⟩ | ⟨-, hreserved, -⟩ | ⟨hdue, -, e⟩ := State.clock1_cases u l
  · rw [e]; exact ⟨hrun, hother, hran.waits hlo hhi hno⟩
  · exact absurd (hmode ▸ hreserved) hm.not_reserved
  · rw [e]
    dsimp only
    rw [hmode]
    exact ⟨hrun, hother, hran.ticks hlo hhi hdue (by decide) hm hact u.icr1 (by decide)⟩

theorem State.advance_ran1 (h : s.ran1 0 s) (k : Nat) : s.ran1 k (s.advance k) := by
  have hcycle {j : Nat} {u : State} (h : s.ran1 j u) : s.ran1 (j + 1) u.advanceCycle :=
    State.advanceCycle_reaches (fun l => State.inputCapture_ran1 l h) State.clock0_ran1 (fun h => h.1)
      (State.clock1_ran1 hlo hhi hm hact)
  have := State.advance_reaches (P := s.ran1) hcycle (fun h => h.1) k h
  rwa [Nat.zero_add] at this

end

/-- Settles O53, as O52 with port B. -/
theorem timer1OverflowTime : Obligations.Timer1OverflowTime := by
  intro s k ⟨hrun, hother, hlo, hhi, hcount, hpsc, hblock⟩ P T
  have hzero : s.ran1 0 s := ⟨hrun, hother, ran_zero hcount hpsc hblock⟩
  have hran (hm : s.timer1.mode1.rising) (hact : s.timer1.mode1.kind = .fast → s.timer1.ocrAAct = s.timer1.ocrABuf) :
      Ran s.timer1 s.portB s.timer1.mode1 1 k (s.advance k).timer1 (s.advance k).portB :=
    (State.advance_ran1 hlo hhi hm hact hzero k).2.2
  refine ⟨fun hwgm => ?normal, fun hwgm hact => ?fast, fun hwgm => ?ctc⟩
  case normal =>
    have hmode : s.timer1.mode1 = ⟨.normal, .const 0xFFFF, false⟩ := by rw [Timer.mode1, hwgm]; rfl
    have hk : s.timer1.mode1.kind = .normal := by rw [hmode]
    exact (hran (.inl hk) (fun h => by rw [hk] at h; cases h)).normal hlo hhi hk
  case fast =>
    have hmode : s.timer1.mode1 = ⟨.fast, .ocrA, true⟩ := by rw [Timer.mode1, hwgm]; rfl
    have hm : s.timer1.mode1.rising := .inr (.inr (by rw [hmode]; exact ⟨rfl, rfl, rfl⟩))
    exact (hran hm (fun _ => hact)).fast hlo hhi (by rw [hmode])
  case ctc =>
    have hmode : s.timer1.mode1 = ⟨.ctc, .ocrA, false⟩ := by rw [Timer.mode1, hwgm]; rfl
    have hm : s.timer1.mode1.rising := .inr (.inl (by rw [hmode]; exact ⟨rfl, rfl⟩))
    have hk : s.timer1.mode1.kind = .ctc := by rw [hmode]
    exact (hran hm (fun h => by rw [hk] at h; cases h)).ctc hlo hhi hk

end Sys2Proof.Machine
end
